-- ==== Sys2Proof/Word.lean ====
section
/-! DEFINITION. The units every value of ZU-CORE is made of (00_scope R9, R10): bytes, 32-bit words, byte strings, and
the sixteen words of one RSA block or one digest. -/

namespace Sys2Proof

/-- A byte, unsigned (R9). -/
abbrev Byte := BitVec 8

/-- A 32-bit word, unsigned (R9); every window access moves one (R46). -/
abbrev Word := BitVec 32

/-- A finite sequence of bytes, index 0 first (R10). -/
abbrev Bytes := List Byte

/-- Sixteen words: one 64-byte block of the RSA core (R61), or one digest of the SHA3 core (R102). -/
abbrev Block := Vector Word 16

end Sys2Proof
end

