-- ==== Sys2Proof/Syntax.lean ====
section
/-! DEFINITION. The instructions of ZU-CORE, one constructor per row of spec/opcode_table.json, and the three kinds of
code they are encoded as (30_encoding). -/

namespace Sys2Proof

/-- The key slots (R59): the private slot only decrypts, the two public slots only encrypt. -/
inductive KeySlot
  | devicePrivate
  | updatingOrgPublic
  | confirmingOrgPublic
deriving DecidableEq, Repr, Inhabited

/-- The two accelerator cores, each behind one register window (R35). -/
inductive CoreId
  | rsa
  | sha3
deriving DecidableEq, Repr

/-- An encoded instruction, in the format its row of the opcode table has: a 32-bit command word (R65), a 10-bit bus
descriptor (R67), or an 8-bit abstract message tag (R69). -/
inductive Code
  | cmd (w : BitVec 32)
  | bus (d : BitVec 10)
  | msg (t : BitVec 8)
deriving DecidableEq, Repr

/-- The instructions. The comment of each names its mnemonic and its rule. -/
inductive Instr
  /-- RSA_ENCRYPT, R86. -/
  | rsaEncrypt (key : KeySlot)
  /-- RSA_DECRYPT, R87. -/
  | rsaDecrypt (key : KeySlot)
  /-- SHA3_RESET, R101. -/
  | sha3Reset
  /-- SHA3_HASH, R102. -/
  | sha3Hash (hex : Bool)
  /-- PROTO_RUN, R132. -/
  | protoRun
  /-- RSA_WR_DATA, R88. -/
  | rsaWrData (i : Fin 16)
  /-- RSA_WR_KEYSEL, R89. -/
  | rsaWrKeysel
  /-- RSA_WR_START, R90. -/
  | rsaWrStart
  /-- RSA_RD_STATUS, R91. -/
  | rsaRdStatus
  /-- RSA_RD_DATA, R92. -/
  | rsaRdData (i : Fin 16)
  /-- RSA_WR_STOP, R93. -/
  | rsaWrStop
  /-- SHA3_WR_RESET, R103. -/
  | sha3WrReset
  /-- SHA3_WR_START, R105. -/
  | sha3WrStart
  /-- SHA3_RD_READY, R106. -/
  | sha3RdReady
  /-- SHA3_RD_FULL, R108. -/
  | sha3RdFull
  /-- SHA3_RD_DIGEST, R107. -/
  | sha3RdDigest
  /-- SHA3_WR_FIFO, R104. -/
  | sha3WrFifo
  /-- SHA3_WR_COUNT, R109. -/
  | sha3WrCount
  /-- UpdateCheck, R119. -/
  | updateCheck
  /-- M1, R121. -/
  | m1
  /-- M2, R123. -/
  | m2
  /-- M3, R124. -/
  | m3
  /-- UpdateImage, R126. -/
  | updateImage
  /-- OK, R128. -/
  | ok
  /-- ImageData, R127. -/
  | imageData
  /-- OrgChallenge, R121. -/
  | orgChallenge
  /-- DeviceChallenge, R122 and R123. -/
  | deviceChallenge
  /-- OrgResponse, R124. -/
  | orgResponse
deriving DecidableEq, Repr

end Sys2Proof
end

