-- ==== Sys2Proof/Config.lean ====
section
/-! DEFINITION. What an implementation fixes and what the spec leaves free (00_scope R7, R8). Constants of R7 are
definitions. The parameters of R8 are the plain structure `Params`; a state carries one, so that a statement over all
states holds for every choice. Every `opaque` below has no body: nothing in Lean can read a value out of it. -/

namespace Sys2Proof

/-! ### Constants the source fixes (R7) -/

/-- `SEG`: payload bytes of one block. -/
def segLen : Nat := 53
/-- `P_RSA_START_VALUE`: the value written to RSA.START (R90). -/
def rsaStartValue : Word := 1
/-- `P_CTRL_RX_MAX`: the receive buffer for control messages, in bytes (R115). -/
def ctrlRxMax : Nat := 512
/-- `P_IMG_CHUNK`: the largest image chunk asked for, in bytes (R127). -/
def imgChunk : Nat := 4096
/-- `IMGHDR_LEN`: the image header, in bytes (R64). -/
def imgHdrLen : Nat := 77

/-! ### Parameters the source leaves open (R8) -/

/-- `P_HDR_CHECK` (R79). -/
inductive HdrCheck
  | strict
  | off
deriving DecidableEq, Repr, Inhabited

/-- `P_ATTEST_ENC` (R137). -/
inductive AttestEnc
  | raw64
  | hex128
deriving DecidableEq, Repr, Inhabited

/-- `P_CONFIRM_FAIL_POLICY` (R133). -/
inductive FailPolicy
  | abort
  | goOn
deriving DecidableEq, Repr, Inhabited

/-- A byte order, for `P_HDR_SIZE_ORDER` (20_memory R42), which no rule of ZU-CORE reads. -/
inductive ByteOrder
  | mostSignificantFirst
  | leastSignificantFirst
deriving DecidableEq, Repr, Inhabited

/-- Which `P_CODEC` the machine has: the platform's, of which nothing is known, the EX-CODEC of 95_test_vectors, or the
model's own variant of it that can reject every record (log 11). -/
inductive CodecId
  | platform
  | exCodec
  | tagged
deriving DecidableEq, Repr, Inhabited

/-- `P_KEY_INDEX`: the value written to RSA.KEYSEL for each slot (R59). -/
structure KeyIndex where
  devicePrivate       : Word
  updatingOrgPublic   : Word
  confirmingOrgPublic : Word
deriving DecidableEq, Repr, Inhabited

/-- The parameters of R8. No step writes one. -/
structure Params where
  rsaBase         : Nat        -- P_RSA_BASE
  shaBase         : Nat        -- P_SHA3_BASE
  keyIndex        : KeyIndex   -- P_KEY_INDEX
  rsaDone         : Word       -- P_RSA_DONE
  shaReady        : Word       -- P_SHA3_READY
  shaResetValue   : Word       -- P_SHA3_RESET_VALUE
  shaStartValue   : Word       -- P_SHA3_START_VALUE
  pollMax         : Nat        -- P_POLL_MAX
  pollInterval    : Nat        -- P_POLL_INTERVAL (timing only)
  netTimeout      : Nat        -- P_NET_TIMEOUT (timing only)
  deviceId        : Word       -- P_DEVICE_ID
  fwVersion       : Word       -- P_FW_VERSION
  nOrgs           : Nat        -- P_N_ORGS
  codec           : CodecId    -- P_CODEC
  stageCap        : Nat        -- P_STAGE_CAP
  attestEnc       : AttestEnc  -- P_ATTEST_ENC
  confirmFail     : FailPolicy -- P_CONFIRM_FAIL_POLICY
  hdrCheck        : HdrCheck   -- P_HDR_CHECK
  hdrSizeOrder    : ByteOrder  -- P_HDR_SIZE_ORDER
deriving DecidableEq, Repr, Inhabited

/-- The parameters with the spec's default for every one that has a default (R8); the OPEN ones as they stand. -/
def Params.withDefaults (p : Params) : Params :=
  { p with
    keyIndex := ⟨0, 1, 2⟩, shaResetValue := 1, shaStartValue := 1, attestEnc := .raw64, confirmFail := .abort
    hdrCheck := .strict, codec := .platform }

/-! ### The external codec (30_encoding R68, R70) -/

/-- `UpdateCheck{version, device_id}`. -/
structure UpdateCheckRec where
  version  : Word
  deviceId : Word
deriving DecidableEq, Repr, Inhabited

/-- `DeviceChallenge{device_id, ng, nd}`. -/
structure DeviceChallengeRec where
  deviceId : Word
  ng       : Word
  nd       : Word
deriving DecidableEq, Repr, Inhabited

/-- `OrgResponse{nd_echo, hash_attestation}`. -/
structure OrgResponseRec where
  ndEcho          : Word
  hashAttestation : Bytes
deriving DecidableEq, Repr, Inhabited

/-- `P_CODEC` (R70): serializer and parser of every record of R68, and the framing. M1, M2 and M3 are their one bytes
field, OrgChallenge its `ng`, UpdateImage its `size`. The width PFX is `pfxLess1 + 1`, so at least 1. -/
structure Codec where
  serUpdateCheck     : UpdateCheckRec → Bytes
  parUpdateCheck     : Bytes → Option UpdateCheckRec
  serM1              : Bytes → Bytes
  parM1              : Bytes → Option Bytes
  serOrgChallenge    : Word → Bytes
  parOrgChallenge    : Bytes → Option Word
  serM2              : Bytes → Bytes
  parM2              : Bytes → Option Bytes
  serDeviceChallenge : DeviceChallengeRec → Bytes
  parDeviceChallenge : Bytes → Option DeviceChallengeRec
  serM3              : Bytes → Bytes
  parM3              : Bytes → Option Bytes
  serOrgResponse     : OrgResponseRec → Bytes
  parOrgResponse     : Bytes → Option OrgResponseRec
  serUpdateImage     : Word → Bytes
  parUpdateImage     : Bytes → Option Word
  pfxLess1           : Nat
  pfx                : Nat → Bytes
  bodyLen            : Bytes → Option Nat
deriving Inhabited

/-- PFX: the width of the length prefix in bytes (R70). -/
def Codec.pfxWidth (c : Codec) : Nat := c.pfxLess1 + 1

/-! ### What the outside answers -/

/-- What one `Recv` answers (R113). `data []` is `receive` returning 0 bytes, which is `Closed`. -/
inductive RecvAnswer
  | data (b : Bytes)
  | closed
  | timeout
deriving DecidableEq, Repr, Inhabited

/-- What one `Send` answers (R112). -/
inductive SendAnswer
  | sent
  | closed
  | timeout
deriving DecidableEq, Repr, Inhabited

/-! ### Free values: no body, so no proof can rest on one -/

/-- The platform's parameters. Log 2. -/
opaque Config.platform : Params
/-- The platform's wire codec (R70, N15). Log 11. -/
opaque Config.platformCodec : Codec
/-- The function of the RSA-512 core (R84). No step reads it; only the premise A_RSA_FN names it. Log 25. -/
opaque Config.rsaCore : Word → Block → Block
/-- The function of the SHA3 core (R99). No step reads it; only the premise A_SHA_FN names it. Log 25. -/
opaque Config.sha3Core : Bytes → Bytes
/-- The n-th answer, where it is a read of RSA.STATUS. Log 5. -/
opaque Config.freeRsaStatus : Nat → Word
/-- The n-th answer, where it is the RSA core's sixteen result words. Log 5. -/
opaque Config.freeRsaResult : Nat → Block
/-- The n-th answer, where it is a read of SHA3.READY. Log 5. -/
opaque Config.freeShaReady : Nat → Word
/-- The n-th answer, where it is the SHA3 core's sixteen digest words. Log 5. -/
opaque Config.freeShaDigest : Nat → Block
/-- The n-th answer, where it is what stands behind SHA3.DIGEST after a reset write, until the next start. Log 7. -/
opaque Config.freeDigestCleared : Nat → Block
/-- What a read of SHA3.DIGEST past the sixteenth word returns. Log 7. -/
opaque Config.freeDigestTail : Nat → Word
/-- The n-th answer, where it is a filler byte, before 0 is excluded. Log 20. -/
opaque Config.freeFiller : Nat → Byte
/-- The n-th answer, where it is a nonce draw (R122). Log 5. -/
opaque Config.freeNonce : Nat → Word
/-- The n-th answer, where it is a `Recv`. Log 5. -/
opaque Config.freeRecv : Nat → RecvAnswer
/-- The n-th answer, where it is a `Send`. Log 5. -/
opaque Config.freeSend : Nat → SendAnswer
/-- The words the window registers hold after the n-th reset, by a number of the model's own (93 U11). Log 4. -/
opaque Config.windowWord : Nat → Nat → Word
/-- What the SHA3 FIFO holds after the n-th reset (R30, R166). Log 4. -/
opaque Config.fifoAtReset : Nat → List Word
/-- Where the SHA3 digest pointer stands after the n-th reset (R47, R166). Log 4. -/
opaque Config.digestPtrAtReset : Nat → Nat

end Sys2Proof
end

