-- ==== Sys2Proof/Machine/State.lean ====
section
/-! DEFINITION. The state of ZU-CORE (10_state), the state of the agents around it that its primitives reach (10_state
R15, 20_memory R35), and the machine right after reset (70_reset R165). INVENTORY.md lists every field with its rule. -/

namespace Sys2Proof.Machine

/-! ### Command port (R16) -/

/-- `res_status` (R149). -/
inductive ResStatus
  | none
  | ok
  | fail
  | illegal
deriving DecidableEq, Repr

/-- The command port (R16). -/
structure Port where
  busy      : Bool
  cmd       : Word
  argData   : Bytes
  resStatus : ResStatus
  resData   : Bytes
deriving DecidableEq, Repr

/-! ### Sequencing state (R18 to R21) -/

/-- `sess_state` (R19). -/
inductive SessState
  | init
  | checkSent
  | awaitM1
  | challengeSent
  | awaitM3
  | authenticated
  | awaitImageSize
  | receivingImage
  | imageComplete
  | sessionDone
  | failed
  | noSession
deriving DecidableEq, Repr

/-- `run_state` (R20). -/
inductive RunState
  | runIdle
  | runGU
  | runGC
  | valDecrypt
  | valParse
  | valHash
  | valCompare
  | runReady
  | runFailed
deriving DecidableEq, Repr

/-- `proc` (R21); `idle` is the spec's `None`. -/
inductive Proc
  | idle
  | rsaWrData (i : Fin 16)
  | rsaWrKey
  | rsaWrStart
  | rsaPoll (a : Nat)
  | rsaRdData (i : Fin 16)
  | shaWrReset
  | shaWrFifo (j : Nat)
  | shaWrStart
  | shaPoll (a : Nat)
  | shaRdDigest (k : Fin 16)
deriving DecidableEq, Repr

/-- The MODEL's own (log 19): where a session rule stands, for the places the spec's tuple does not tell apart. -/
inductive Phase
  /-- At the rule's beginning; for a receiving rule, in `RecvFrame`. -/
  | start
  /-- An engine procedure that the rule called is running. -/
  | engine
  /-- `Decrypt` has returned; its plaintext is held (R121, R124). -/
  | opened
  /-- `s_ng` is set; the nonce is to be drawn (R122). -/
  | nonce
  /-- `Encrypt` has returned; the ciphertext is held and M2 is to be sent (R123). -/
  | sealed
  /-- UpdateImage is accepted; OK is to be sent (R126). -/
  | ack
  /-- An image chunk is held and is to be staged (R127). -/
  | chunk
deriving DecidableEq, Repr

/-- The sequencing tuple (R18) with the model's own phase. -/
structure Seq where
  run   : RunState
  sess  : SessState
  proc  : Proc
  phase : Phase
deriving DecidableEq, Repr

/-! ### Engines (R22 to R25) -/

/-- The MODEL's own (log 19): which of the two RSA operations is running. -/
inductive RsaOp
  | encrypt
  | decrypt
deriving DecidableEq, Repr

/-- The RSA engine's working registers (R22); the last four fields are the model's own (log 19). -/
structure RsaEngine where
  key     : KeySlot
  nblk    : Nat
  k       : Nat
  inp     : Block
  out     : Block
  acc     : Bytes
  pollcnt : Nat
  op      : RsaOp
  src     : Bytes
  filler  : Bytes
  filling : Bool
deriving DecidableEq, Repr

/-- The SHA3 engine's working registers (R23). -/
structure ShaEngine where
  msg     : Bytes
  j       : Nat
  dig     : Bytes
  hex     : Bool
  pollcnt : Nat
deriving DecidableEq, Repr

/-- The bookkeeping bits `sha_dirty` (R24) and `suspect` (R25). -/
structure Book where
  shaDirty    : Bool
  suspectRsa  : Bool
  suspectSha  : Bool
deriving DecidableEq, Repr

/-! ### Errors (R28, R144, R145) -/

/-- The error kinds (R144); `none` is kind 0. -/
inductive ErrKind
  | none
  | parseError
  | cryptoFailure
  | authenticationFailure
  | transportFailure
  | integrityFailure
  | cancelled
deriving DecidableEq, Repr

/-- The subcodes of R145 with the information each records. -/
inductive Cause
  | badPrefix
  | frameTooLong
  | m1
  | orgChallenge
  | m3
  | orgResponse
  | updateImage
  | imageTooLarge
  | hardwareTimeout (core : CoreId)
  | invalidPadding (block : Nat)
  | badLength
  | keySlotMisuse
  | nonceMismatch
  | closed
  | timeout
  | shortImage
  | headerMismatch
  | attestMismatch (org : Nat)
  | cancelled
deriving DecidableEq, Repr

/-- The step an error is recorded at: a session state or a run state (R28). -/
inductive StepPos
  | sess (s : SessState)
  | run (r : RunState)
deriving DecidableEq, Repr

/-- The error record (R28). `kind` and `sub` stand in one cause, none when the kind is 0 (log 23). -/
structure ErrRec where
  cause : Option Cause
  org   : Option Nat
  step  : Option StepPos
deriving DecidableEq, Repr

/-- The error record with kind 0 and all other fields none (R28). -/
def ErrRec.clear : ErrRec := ⟨none, none, none⟩

/-! ### Protocol (R26, R27) -/

/-- `s_role` (R26). -/
inductive Role
  | updating
  | confirming
deriving DecidableEq, Repr

/-- The MODEL's own (log 19): where `RecvFrame` (R115) stands, in the length field or in a body of `len` bytes. -/
inductive RxPos
  | lenField
  | body (len : Nat)
deriving DecidableEq, Repr

/-- The protocol session (R26); the last three fields are the model's own (log 19). -/
structure Session where
  role    : Role
  ng      : Word
  nd      : Word
  ok      : Bool
  attest  : Bytes
  imgSize : Word
  imgRcvd : Nat
  rx      : RxPos
  rxBuf   : Bytes
  held    : Bytes
deriving DecidableEq, Repr

/-- A session's fields at their reset values (R26, R117), in the role given. -/
def Session.fresh (role : Role) : Session := ⟨role, 0, 0, false, [], 0, 0, .lenField, [], []⟩

/-- The image header (R64): every field a byte string, none interpreted but `hash`. -/
structure ImageHeader where
  lenByte : Byte
  sizeA   : Bytes
  sizeB   : Bytes
  sizeC   : Bytes
  hash    : Bytes
deriving DecidableEq, Repr

/-- The recorded outcome of a session (R27). -/
inductive SessOutcome
  | success
  | failure (e : ErrRec)
deriving DecidableEq, Repr

/-- The run (R27); `firstGcErr` is R132's local `first_gc_err`, which the spec gives no register (log 19). -/
structure Run where
  checkSent  : Bool
  orgIdx     : Nat
  attests    : List Bytes
  sessLog    : List (Nat × SessOutcome)
  imgLen     : Word
  decImg     : Bytes
  hdr        : Option ImageHeader
  digest     : Bytes
  firstGcErr : Option ErrRec
deriving DecidableEq, Repr

/-- The outputs to the installer (R33); the last two are valid while `ready`. -/
structure Outputs where
  ready          : Bool
  installHdr     : ImageHeader
  installPayload : Bytes
deriving DecidableEq, Repr

/-! ### Windows and staging store (R29, R30, R35) -/

/-- The RSA window's registers (R29). 0x40 is two registers (R172): KEYSEL is here, STATUS is answered afresh at every
read (log 8). `din` and `dout` are the two sides of RSA.D0 to RSA.D15. -/
structure RsaWindow where
  din    : Block
  dout   : Block
  keysel : Word
  start  : Word
  stop   : Word
deriving DecidableEq, Repr

/-- The SHA3 window's registers (R30), with the digest pointer of R47. READY is answered afresh at every read (log 8). -/
structure ShaWindow where
  resetReg : Word
  start    : Word
  full     : Word
  fifo     : List Word
  digest   : Block
  ptr      : Nat
  count    : Word
deriving DecidableEq, Repr

/-- The staging store (R49): the bytes written so far, by offset. -/
abbrev Memory := List Host.Cell

/-- The canonical form: offsets strictly rising. An unlisted offset has no value, so no entry can repeat one (log 9). -/
def Memory.wf : List Host.Cell → Bool
  | [] => true
  | c :: t => (match t with | [] => true | d :: _ => decide (c.1 < d.1)) && Memory.wf t

/-! ### The environment: no state of ZU-CORE (R15, R34) -/

/-- One line of a host program (R74): a command word and its `arg_data`. -/
structure HostLine where
  word : Word
  data : Bytes
deriving DecidableEq, Repr

/-- Which of the boot requirements R167.1 to R167.6 the platform has met. -/
structure Boot where
  windowsMapped   : Bool
  coresIdle       : Bool
  keysPresent     : Bool
  stagingWritable : Bool
  paramsSet       : Bool
  linkUp          : Bool
deriving DecidableEq, Repr

/-- The agents around ZU-CORE: what the host will present, its two input lines, and what each agent answers next. A
tape's head is the next answer; past its end the answer is a free value of Config, numbered by `draws` (log 5). -/
structure Env where
  program    : List HostLine
  cancel     : Bool
  resetIn    : Bool
  busRequest : Option (BitVec 10)
  boot       : Boot
  rsaStatus  : List Word
  rsaResult  : List Block
  shaReady   : List Word
  shaDigest  : List Block
  filler     : List Byte
  nonce      : List Word
  recv       : List RecvAnswer
  send       : List SendAnswer
  draws      : Nat
  sent       : List Bytes
deriving DecidableEq, Repr

/-- The state: the configuration, ZU-CORE's own registers, and what its primitives reach. -/
structure State where
  cfg    : Params
  port   : Port
  seq    : Seq
  rsa    : RsaEngine
  sha    : ShaEngine
  book   : Book
  ses    : Session
  run    : Run
  err    : ErrRec
  out    : Outputs
  rsaWin : RsaWindow
  shaWin : ShaWindow
  stage  : List Host.Cell
  env    : Env
deriving DecidableEq, Repr

/-! ### How a step can stop -/

/-- The faults: the machine stops. -/
inductive Fault
  /-- Raised by validation's StageRead (R134) on an offset that nothing has written: the spec calls the byte UNSPEC and
  its read a fault (R49). Safe: the model stops where the hardware would read some byte. -/
  | stageUnwritten
  /-- Raised by ImageData's StageWrite (R127) past `P_STAGE_CAP`: no such offset exists (R35). Safe: the model stops; no
  state that a run reaches comes here. -/
  | stageOutOfRange
  /-- Raised by a silent step in a sequencing tuple for which no rule of the spec gives a step (log 28). Safe: the model
  stops; no state that a run reaches comes here. -/
  | noRule
deriving DecidableEq, Repr

/-- The refusals: no meaning. -/
inductive Refusal
  /-- Raised by exec alone, for an instruction that has no meaning yet. Safe. -/
  | notModelled (mnemonic : String)
  /-- Raised by every command while a boot requirement of R167.1 to R167.5 is unmet: "A model refuses it". Safe. -/
  | bootUnmet
  /-- Raised by RSA_WR_STOP (R93, 93 U10): its value and effect are not in the source. Safe. -/
  | rsaStopNotInSource
  /-- Raised by SHA3_RD_FULL (R108, 93 U10): its value is not in the source. Safe. -/
  | sha3FullNotInSource
  /-- Raised by SHA3_WR_COUNT (R109, 93 U10): its direction and effect are not in the source. Safe. -/
  | sha3CountNotInSource
  /-- Raised by a requested bus access whose offset is no multiple of 4 (R43). Safe. -/
  | misalignedAccess
  /-- Raised by a requested bus access to an offset outside R67 (R73.3, 93 U9). Safe. -/
  | reservedOffset
deriving DecidableEq, Repr

/-! ### Reset (R165) -/

/-- A block of zero words: the named value of an UNSPEC block of ZU-CORE (DESIGN CHOICE, log 3). -/
def zeroBlock : Block := Vector.replicate 16 0

/-- Sixteen window words after the n-th reset: any value (93 U11, log 4). -/
def freeBlock (n base : Nat) : Block := Vector.ofFn fun i => Config.windowWord n (base + i.val)

/-- The RSA window after the n-th reset: any value in every register (R166, 93 U11, log 4). -/
def freeRsaWindow (n : Nat) : RsaWindow :=
  { din := freeBlock n 0, dout := freeBlock n 16, keysel := Config.windowWord n 32, start := Config.windowWord n 33
    stop := Config.windowWord n 34 }

/-- The SHA3 window, FIFO and digest pointer after the n-th reset: any value (R166, 93 U11, log 4). -/
def freeShaWindow (n : Nat) : ShaWindow :=
  { resetReg := Config.windowWord n 35, start := Config.windowWord n 36, full := Config.windowWord n 37
    fifo := Config.fifoAtReset n, digest := freeBlock n 40, ptr := Config.digestPtrAtReset n
    count := Config.windowWord n 38 }

/-- The environment at reset: nothing presented, both inputs 0, boot requirements met (log 13), no answer fixed. -/
def Env.quiet : Env :=
  { program := [], cancel := false, resetIn := false, busRequest := none
    boot := ⟨true, true, true, true, true, true⟩
    rsaStatus := [], rsaResult := [], shaReady := [], shaDigest := [], filler := [], nonce := [], recv := [], send := []
    draws := 0, sent := [] }

/-- The machine right after reset with the parameters given (R165). -/
def State.resetWith (p : Params) : State :=
  { cfg := p
    port := { busy := false, cmd := 0, argData := [], resStatus := .none, resData := [] }
    seq := { run := .runIdle, sess := .noSession, proc := .idle, phase := .start }
    rsa := { key := .devicePrivate, nblk := 0, k := 0, inp := zeroBlock, out := zeroBlock, acc := [], pollcnt := 0
             op := .encrypt, src := [], filler := [], filling := false }
    sha := { msg := [], j := 0, dig := [], hex := false, pollcnt := 0 }
    book := { shaDirty := true, suspectRsa := false, suspectSha := false }
    ses := Session.fresh .updating
    run := { checkSent := false, orgIdx := 0, attests := [], sessLog := [], imgLen := 0, decImg := [], hdr := none
             digest := List.replicate 64 0, firstGcErr := none }
    err := ErrRec.clear
    out := { ready := false
             installHdr := ⟨0, List.replicate 4 0, List.replicate 4 0, List.replicate 4 0, List.replicate 64 0⟩
             installPayload := [] }
    rsaWin := freeRsaWindow 0
    shaWin := freeShaWindow 0
    stage := []
    env := Env.quiet }

/-- The machine right after reset: the spec's default parameters, the OPEN ones free (R8, R165). -/
def State.reset : State := State.resetWith Config.platform.withDefaults

end Sys2Proof.Machine
end

