-- ==== Sys2Proof/Machine/Operands.lean ====
section
/-! DEFINITION. The pure functions of ZU-CORE: word packing (00_scope R11), PKCS blocks (40_rsa R76 to R80), the padded
hash message and the hex form (41_sha3 R97, R98), the image header (30_encoding R64), framing (R71), the attestation
match (42_protocol R137), and EX-CODEC (95_test_vectors). -/

namespace Sys2Proof.Machine

/-! ### Packing (R11, R38, R39) -/

/-- `be32`: the first byte is the most significant (R11). -/
def be32 (b0 b1 b2 b3 : Byte) : Word := b0 ++ b1 ++ b2 ++ b3

/-- `be_bytes`: most significant byte first (R11). -/
def beBytes (w : Word) : Bytes :=
  [w.extractLsb' 24 8, w.extractLsb' 16 8, w.extractLsb' 8 8, w.extractLsb' 0 8]

/-- Word i of a byte string whose length is a multiple of 4: `be32(s[4i..4i+4))` (R38). -/
def wordAt (s : Bytes) (i : Nat) : Word :=
  be32 (s.getD (4 * i) 0) (s.getD (4 * i + 1) 0) (s.getD (4 * i + 2) 0) (s.getD (4 * i + 3) 0)

/-- `words` (R11). -/
def words (s : Bytes) : List Word := (List.range (s.length / 4)).map (wordAt s)

/-- `words` of a 64-byte block (R61). -/
def blockOfBytes (s : Bytes) : Block := Vector.ofFn fun i => wordAt s i.val

/-- `unwords` (R11). -/
def unwords (ws : List Word) : Bytes := ws.flatMap beBytes

/-- Word i of a block. -/
def blockGet (b : Block) (i : Fin 16) : Word := b[i.val]

/-- A block with word i written. -/
def blockSet (b : Block) (i : Fin 16) (w : Word) : Block := b.set i.val w

/-- The next word index, none after 15. -/
def nextIndex (i : Fin 16) : Option (Fin 16) := if h : i.val + 1 < 16 then some ⟨i.val + 1, h⟩ else none

/-! ### Key slots and bus addresses -/

/-- `P_KEY_INDEX(slot)` (R59). -/
def keyIndexOf (x : KeyIndex) : KeySlot → Word
  | .devicePrivate => x.devicePrivate
  | .updatingOrgPublic => x.updatingOrgPublic
  | .confirmingOrgPublic => x.confirmingOrgPublic

/-- The public slot of an organization's role (R123). -/
def publicSlot : Role → KeySlot
  | .updating => .updatingOrgPublic
  | .confirming => .confirmingOrgPublic

/-- The bus address of a window access (R36). No rule's result depends on it. -/
def busAddress (p : Params) (core : CoreId) (offset : Nat) : Nat :=
  match core with
  | .rsa => p.rsaBase + offset
  | .sha3 => p.shaBase + offset

/-! ### PKCS blocks (R76 to R80) -/

/-- S: the number of 53-byte segments of a plaintext, 0 for the empty one (R76). -/
def segCount (p : Bytes) : Nat := (p.length + 52) / 53

/-- `seg(k)` (R76). -/
def segAt (p : Bytes) (k : Nat) : Bytes := (p.drop (53 * k)).take 53

/-- `drawNZ` from the byte an answer gives: any byte but 0x00 (R12, R77). Log 20. -/
def nonZero (b : Byte) : Byte := if b = 0 then 1 else b

/-- `pad(s, F)`: header, filler, terminator, pad run, segment (R78). -/
def padBlock (s filler : Bytes) : Bytes :=
  [0x00, 0x02] ++ filler ++ [0x00] ++ List.replicate (53 - s.length) (BitVec.ofNat 8 (53 - s.length)) ++ s

/-- `hdr_ok` (R79). -/
def hdrOk (o : Bytes) : Bool :=
  o.getD 0 0xFF == 0x00 && o.getD 1 0 == 0x02 && ((o.drop 2).take 8).all (· != 0x00) && o.getD 10 0xFF == 0x00

/-- A valid pad run stands at the front: `1 <= p <= |x|` and the first p bytes are all p, for p = x[0] (R80). -/
def hasPadRun (x : Bytes) : Bool :=
  match x with
  | [] => false
  | p :: _ => 1 ≤ p.toNat && p.toNat ≤ x.length && (x.take p.toNat).all (· == p)

/-- `strip` (R80): the leading run is dropped, by the choice of 90_conflicts C1. -/
def strip (x : Bytes) : Bytes :=
  match x with
  | [] => []
  | p :: _ => if hasPadRun x then x.drop p.toNat else x

/-- Ciphertext block k (R87). -/
def cipherBlock (c : Bytes) (k : Nat) : Bytes := (c.drop (64 * k)).take 64

/-- The 53-byte payload of an opened block (R87). -/
def payloadOf (o : Bytes) : Bytes := (o.drop 11).take 53

/-! ### SHA3 message and digest (R97, R98) -/

/-- `padlen(M)` (R97): 1 to 64, 64 when the length is a multiple of 64. -/
def shaPadLen (m : Bytes) : Nat := 64 - m.length % 64

/-- `shapad(M)` (R97). -/
def shaPad (m : Bytes) : Bytes := m ++ List.replicate (shaPadLen m) 0xFF

/-- The ASCII code of a hexadecimal digit, lowercase (R98). -/
def hexDigit (n : Nat) : Byte := if n < 10 then BitVec.ofNat 8 (0x30 + n) else BitVec.ofNat 8 (0x57 + n)

/-- `hexenc` (R98): two characters a byte, high nibble first. -/
def hexEnc (d : Bytes) : Bytes := d.flatMap fun b => [hexDigit (b.toNat / 16), hexDigit (b.toNat % 16)]

/-! ### Image and attestation (R64, R135, R137) -/

/-- The header of a decrypted image (R135). -/
def parseHeader (img : Bytes) : ImageHeader :=
  { lenByte := img.getD 0 0, sizeA := (img.drop 1).take 4, sizeB := (img.drop 5).take 4, sizeC := (img.drop 9).take 4
    hash := (img.drop 13).take 64 }

/-- The payload of a decrypted image (R135). -/
def imagePayload (img : Bytes) : Bytes := img.drop imgHdrLen

/-- `attest_eq(d, a)` (R137). -/
def attestEq (enc : AttestEnc) (d a : Bytes) : Bool :=
  match enc with
  | .raw64 => a == d
  | .hex128 => a == hexEnc d

/-- The number of the first organization whose attestation does not match, counting from `n` (R138). -/
def firstMismatch (enc : AttestEnc) (d : Bytes) (n : Nat) : List Bytes → Option Nat
  | [] => none
  | a :: rest => if attestEq enc d a then firstMismatch enc d (n + 1) rest else some n

/-! ### Messages (R71, R72) -/

/-- `frame(b)` (R71). -/
def frame (c : Codec) (b : Bytes) : Bytes := c.pfx b.length ++ b

/-- The acknowledgment, "OK" (R72). -/
def okBytes : Bytes := [0x4F, 0x4B]

/-! ### EX-CODEC (95_test_vectors, section 2) -/

/-- A word at a place of a byte string, most significant byte first. -/
def wordFrom (s : Bytes) (at_ : Nat) : Word := wordAt (s.drop at_) 0

/-- The instance of `P_CODEC` that the protocol vectors use. -/
def exCodec : Codec :=
  { serUpdateCheck := fun r => beBytes r.version ++ beBytes r.deviceId
    parUpdateCheck := fun b => if b.length = 8 then some ⟨wordFrom b 0, wordFrom b 4⟩ else none
    serM1 := id
    parM1 := some
    serOrgChallenge := beBytes
    parOrgChallenge := fun b => if b.length = 4 then some (wordFrom b 0) else none
    serM2 := id
    parM2 := some
    serDeviceChallenge := fun r => beBytes r.deviceId ++ beBytes r.ng ++ beBytes r.nd
    parDeviceChallenge := fun b => if b.length = 12 then some ⟨wordFrom b 0, wordFrom b 4, wordFrom b 8⟩ else none
    serM3 := id
    parM3 := some
    serOrgResponse := fun r => beBytes r.ndEcho ++ r.hashAttestation
    parOrgResponse := fun b => if 4 ≤ b.length then some ⟨wordFrom b 0, b.drop 4⟩ else none
    serUpdateImage := beBytes
    parUpdateImage := fun b => if b.length = 4 then some (wordFrom b 0) else none
    pfxLess1 := 1
    pfx := fun n => [BitVec.ofNat 8 (n / 256), BitVec.ofNat 8 n]
    bodyLen := fun q => if q.length = 2 then some (256 * (q.getD 0 0).toNat + (q.getD 1 0).toNat) else none }

/-- A body with a leading tag byte: what follows the tag, none where the tag is another. -/
def untag (t : Byte) (b : Bytes) : Option Bytes := if b.head? = some t then some b.tail else none

/-- The MODEL's own variant of EX-CODEC (log 11), under which every parse failure of R115, R121 and R124 can occur: the
bodies of M1, M2 and M3 begin with a tag byte, and a length prefix with its top bit set is rejected. -/
def taggedCodec : Codec :=
  { exCodec with
    serM1 := fun b => 0x11 :: b
    parM1 := untag 0x11
    serM2 := fun b => 0x12 :: b
    parM2 := untag 0x12
    serM3 := fun b => 0x13 :: b
    parM3 := untag 0x13
    bodyLen := fun q => if (q.getD 0 0).toNat < 0x80 then exCodec.bodyLen q else none }

/-- The codec a configuration names (R70). -/
def codecOf : CodecId → Codec
  | .platform => Config.platformCodec
  | .exCodec => exCodec
  | .tagged => taggedCodec

/-- The machine's codec. -/
def State.codec (s : State) : Codec := codecOf s.cfg.codec

end Sys2Proof.Machine
end

