-- ==== Sys2Proof/Machine/Flags.lean ====
section
/-! DEFINITION. The codes of errors and results (60_exceptions R144, R145, R149), the status values, flags and
bookkeeping bits (10_state R24, R25, R31, R32), and the predicates that the error rules read (R150). ZU-CORE has no arithmetic condition codes. -/

namespace Sys2Proof.Machine

/-! ### Codes of the error record and the result status -/

/-- The u8 of a result status (R149). -/
def ResStatus.code : ResStatus → Byte
  | .none => 0
  | .ok => 1
  | .fail => 2
  | .illegal => 3

/-- A kind's code (R144). -/
def ErrKind.code : ErrKind → Nat
  | .none => 0
  | .parseError => 1
  | .cryptoFailure => 2
  | .authenticationFailure => 3
  | .transportFailure => 4
  | .integrityFailure => 5
  | .cancelled => 6

/-- The kind a subcode belongs to (R145). -/
def Cause.kind : Cause → ErrKind
  | .badPrefix | .frameTooLong | .m1 | .orgChallenge | .m3 | .orgResponse | .updateImage | .imageTooLarge => .parseError
  | .hardwareTimeout _ | .invalidPadding _ | .badLength | .keySlotMisuse => .cryptoFailure
  | .nonceMismatch => .authenticationFailure
  | .closed | .timeout => .transportFailure
  | .shortImage | .headerMismatch | .attestMismatch _ => .integrityFailure
  | .cancelled => .cancelled

/-- The number of a subcode within its kind (R145). -/
def Cause.sub : Cause → Nat
  | .badPrefix => 1
  | .frameTooLong => 2
  | .m1 => 3
  | .orgChallenge => 4
  | .m3 => 5
  | .orgResponse => 6
  | .updateImage => 7
  | .imageTooLarge => 8
  | .hardwareTimeout _ => 1
  | .invalidPadding _ => 2
  | .badLength => 3
  | .keySlotMisuse => 4
  | .nonceMismatch => 1
  | .closed => 1
  | .timeout => 2
  | .shortImage => 1
  | .headerMismatch => 2
  | .attestMismatch _ => 3
  | .cancelled => 0

/-- `err.kind` (R28). -/
def ErrRec.kind (e : ErrRec) : ErrKind :=
  match e.cause with
  | none => .none
  | some c => c.kind

/-- Requirements 1 to 5, without which a command is refused (R167). -/
def Boot.met (b : Boot) : Bool :=
  b.windowsMapped && b.coresIdle && b.keysPresent && b.stagingWritable && b.paramsSet

/-! ### Flags and predicates -/

/-- RSA done: the status word read is `P_RSA_DONE`, compared whole (R31, R32). -/
def State.rsaDoneIs (s : State) (w : Word) : Bool := w == s.cfg.rsaDone

/-- SHA3 ready: the status word read is `P_SHA3_READY`, compared whole (R31, R32). -/
def State.shaReadyIs (s : State) (w : Word) : Bool := w == s.cfg.shaReady

/-- `sha_dirty <- b` (R24). -/
def State.setDirty (b : Bool) (s : State) : State := { s with book := { s.book with shaDirty := b } }

/-- `suspect[c] <- 1` (R25). -/
def State.setSuspect (c : CoreId) (s : State) : State :=
  match c with
  | .rsa => { s with book := { s.book with suspectRsa := true } }
  | .sha3 => { s with book := { s.book with suspectSha := true } }

/-- A PROTO_RUN is running: `run_state` is one of its positions and not terminal (R20). -/
def RunState.active : RunState → Bool
  | .runGU | .runGC | .valDecrypt | .valParse | .valHash | .valCompare => true
  | .runIdle | .runReady | .runFailed => false

/-- A session is active (R19). -/
def SessState.active : SessState → Bool
  | .noSession => false
  | .init | .checkSent | .awaitM1 | .challengeSent | .awaitM3 | .authenticated | .awaitImageSize | .receivingImage
  | .imageComplete | .sessionDone | .failed => true

/-- The step an error is recorded at (R28, R150): the session state if a session is active, else the run state. -/
def State.stepPos (s : State) : StepPos := if s.seq.sess.active then .sess s.seq.sess else .run s.seq.run

/-- The organization an error is recorded for (R28, R150): `org_idx` in a PROTO_RUN, else none. -/
def State.errOrg (s : State) : Option Nat := if s.seq.run.active then some s.run.orgIdx else none

end Sys2Proof.Machine
end

