-- ==== Sys2Proof/Machine/Ops.lean ====
section
/-! DEFINITION. The named operations every meaning is made of: moves of the sequencing tuple, command acceptance and
completion (60_exceptions R147, R148), the raise (R150), the answers of the outside (42_protocol R112, R113, 40_rsa
R82), the window registers' effects (20_memory R47), and the staging store (R49). -/

namespace Sys2Proof.Machine

/-! ### Moves of the sequencing tuple -/

/-- `proc <- p`. -/
def State.goProc (p : Proc) (s : State) : State := { s with seq := { s.seq with proc := p } }

/-- The session rule's next place within its state (log 19). -/
def State.goPhase (p : Phase) (s : State) : State := { s with seq := { s.seq with phase := p } }

/-- `goto S` for a session state: at the beginning of that state's rule. -/
def State.goSess (x : SessState) (s : State) : State := { s with seq := { s.seq with sess := x, phase := .start } }

/-- `run_state <- r`. -/
def State.goRun (r : RunState) (s : State) : State := { s with seq := { s.seq with run := r } }

/-! ### Command acceptance and completion -/

/-- Acceptance of a presented line (R147): the host's line is taken, and the command port, the error record and
`ready_to_install` are set, in one step. -/
def State.accept (w : Word) (a : Bytes) (s : State) : State :=
  { s with
    port := { busy := true, cmd := w, argData := a, resStatus := .none, resData := [] }
    err := ErrRec.clear
    out := { s.out with ready := false }
    env := { s.env with program := s.env.program.tail } }

/-- The `arg_data` the host presents with its next command. -/
def State.presentedData (s : State) : Bytes :=
  match s.env.program with
  | [] => []
  | l :: _ => l.data

/-- Command completion (R148). -/
def State.complete (st : ResStatus) (data : Bytes) (s : State) : State :=
  { s with
    port := { s.port with busy := false, resStatus := st, resData := data }
    seq := { s.seq with sess := .noSession, proc := .idle, phase := .start }
    rsa := { s.rsa with filling := false } }

/-! ### The raise: the counterpart of trap entry (R150) -/

/-- The error record of a raise (R150.1). -/
def State.errRecOf (c : Cause) (s : State) : ErrRec := ⟨some c, s.errOrg, some s.stepPos⟩

/-- `raise E(info)` (R150). Inside a session the session fails (R131), and the run decides in its next step; in
validation the run ends in RunFailed; in both of the latter and in a standalone command the command ends with FAIL. -/
def State.raise (c : Cause) (s : State) : State :=
  let e := s.errRecOf c
  if s.seq.sess.active then
    { s with
      err := e
      seq := { s.seq with sess := .failed, proc := .idle, phase := .start }
      rsa := { s.rsa with filling := false }
      run := { s.run with sessLog := s.run.sessLog ++ [(s.run.orgIdx, .failure e)] } }
  else if s.seq.run.active then
    State.complete .fail [] { s with err := e, seq := { s.seq with run := .runFailed } }
  else
    State.complete .fail [] { s with err := e }

/-- `CheckCancel()` before the rest of a step (R116). -/
def State.guarded (k : State → State) (s : State) : State := if s.env.cancel then s.raise .cancelled else k s

/-! ### Answers of the outside (log 5) -/

/-- A tape's next answer: its head, or past its end the free value of number `n`. -/
def nextAnswer {α : Type} (tape : List α) (free : Nat → α) (n : Nat) : α :=
  match tape with
  | [] => free n
  | a :: _ => a

/-- The word a read of RSA.STATUS returns now. -/
def State.rsaStatusWord (s : State) : Word := nextAnswer s.env.rsaStatus Config.freeRsaStatus s.env.draws

/-- A read of RSA.STATUS has been answered. -/
def State.tookRsaStatus (s : State) : State :=
  { s with env := { s.env with rsaStatus := s.env.rsaStatus.tail, draws := s.env.draws + 1 } }

/-- The words the RSA core gives for the operation it starts now (R84: any sixteen words). -/
def State.rsaResultBlock (s : State) : Block := nextAnswer s.env.rsaResult Config.freeRsaResult s.env.draws

/-- The word a read of SHA3.READY returns now. -/
def State.shaReadyWord (s : State) : Word := nextAnswer s.env.shaReady Config.freeShaReady s.env.draws

/-- A read of SHA3.READY has been answered. -/
def State.tookShaReady (s : State) : State :=
  { s with env := { s.env with shaReady := s.env.shaReady.tail, draws := s.env.draws + 1 } }

/-- The words the SHA3 core gives for the hash it starts now (R99: unconstrained). -/
def State.shaDigestBlock (s : State) : Block := nextAnswer s.env.shaDigest Config.freeShaDigest s.env.draws

/-- `drawNZ()` (R12, R77): the byte drawn now. -/
def State.fillerByte (s : State) : Byte := nonZero (nextAnswer s.env.filler Config.freeFiller s.env.draws)

/-- A filler byte has been drawn. -/
def State.tookFiller (s : State) : State :=
  { s with env := { s.env with filler := s.env.filler.tail, draws := s.env.draws + 1 } }

/-- `draw32()` (R12, R122): the word drawn now. -/
def State.nonceWord (s : State) : Word := nextAnswer s.env.nonce Config.freeNonce s.env.draws

/-- A nonce has been drawn. -/
def State.tookNonce (s : State) : State :=
  { s with env := { s.env with nonce := s.env.nonce.tail, draws := s.env.draws + 1 } }

/-- What a `Recv` is answered now; with no connection no byte comes (R167.6). -/
def State.recvAnswer (s : State) : RecvAnswer :=
  match nextAnswer s.env.recv Config.freeRecv s.env.draws with
  | .data b => if s.env.boot.linkUp then .data b else .closed
  | .closed => .closed
  | .timeout => .timeout

/-- A `Recv` has been answered; `rest` is what of the peer's bytes it left in the stream. -/
def State.tookRecv (rest : Bytes) (s : State) : State :=
  { s with
    env := { s.env with
      recv := if rest.isEmpty then s.env.recv.tail else .data rest :: s.env.recv.tail
      draws := s.env.draws + 1 } }

/-- What a `Send` is answered now; with no connection it fails (R167.6). -/
def State.sendAnswer (s : State) : SendAnswer :=
  match nextAnswer s.env.send Config.freeSend s.env.draws with
  | .sent => if s.env.boot.linkUp then .sent else .closed
  | .closed => .closed
  | .timeout => .timeout

/-- A `Send` has been answered; the strings in `out` have gone to the peer. -/
def State.tookSend (out : List Bytes) (s : State) : State :=
  { s with
    env := { s.env with send := s.env.send.tail, draws := s.env.draws + 1, sent := s.env.sent ++ out } }

/-- `Send(b)` and then `k` (R112). -/
def State.sendThen (b : Bytes) (k : State → State) (s : State) : State :=
  match s.sendAnswer with
  | .sent => k (s.tookSend [b])
  | .closed => (s.tookSend []).raise .closed
  | .timeout => (s.tookSend []).raise .timeout

/-- `Recv(n)` and then `k` on the 1 to n bytes returned (R113); 0 bytes is `Closed`. -/
def State.recvThen (n : Nat) (k : Bytes → State → State) (s : State) : State :=
  match s.recvAnswer with
  | .data [] => (s.tookRecv []).raise .closed
  | .data (b :: bs) => k ((b :: bs).take n) (s.tookRecv ((b :: bs).drop n))
  | .closed => (s.tookRecv []).raise .closed
  | .timeout => (s.tookRecv []).raise .timeout

/-! ### Window accesses (R47) -/

/-- `WinWrite(RSA, 4i, v)`: loads input word i. -/
def State.winRsaData (i : Fin 16) (v : Word) (s : State) : State :=
  { s with rsaWin := { s.rsaWin with din := blockSet s.rsaWin.din i v } }

/-- `WinWrite(RSA, 0x40, v)`: selects the key slot. -/
def State.winRsaKeysel (v : Word) (s : State) : State := { s with rsaWin := { s.rsaWin with keysel := v } }

/-- `WinWrite(RSA, 0x44, v)`: starts one operation; the core's answer to it stands in its output words (log 6). -/
def State.winRsaStart (v : Word) (s : State) : State :=
  { s with
    rsaWin := { s.rsaWin with start := v, dout := s.rsaResultBlock }
    env := { s.env with rsaResult := s.env.rsaResult.tail, draws := s.env.draws + 1 } }

/-- `WinWrite(SHA3, 0x04, v)`: clears the FIFO, the digest pointer and the residual state (R47, 41_sha3 R103). What a
read of SHA3.DIGEST would then return before the next start the spec does not say: any words (log 7). -/
def State.winShaReset (v : Word) (s : State) : State :=
  { s with
    shaWin := { s.shaWin with
      resetReg := v, fifo := [], ptr := 0, digest := Config.freeDigestCleared s.env.draws }
    env := { s.env with draws := s.env.draws + 1 } }

/-- `WinWrite(SHA3, 0x40, v)`: enqueues v at the tail of the message FIFO. -/
def State.winShaFifo (v : Word) (s : State) : State :=
  { s with shaWin := { s.shaWin with fifo := s.shaWin.fifo ++ [v] } }

/-- `WinWrite(SHA3, 0x08, v)`: starts the hash; the core's answer to it stands behind the digest register (log 7). -/
def State.winShaStart (v : Word) (s : State) : State :=
  { s with
    shaWin := { s.shaWin with start := v, digest := s.shaDigestBlock }
    env := { s.env with shaDigest := s.env.shaDigest.tail, draws := s.env.draws + 1 } }

/-- The word a read of SHA3.DIGEST returns: the next digest word; past the sixteenth, any word (log 7). -/
def State.digestWord (s : State) : Word :=
  if h : s.shaWin.ptr < 16 then s.shaWin.digest[s.shaWin.ptr] else Config.freeDigestTail s.shaWin.ptr

/-- A read of SHA3.DIGEST advances the digest pointer. -/
def State.tookDigest (s : State) : State := { s with shaWin := { s.shaWin with ptr := s.shaWin.ptr + 1 } }

/-! ### The staging store (R49) -/

/-- The byte at an offset, none if nothing has written it. -/
def Memory.load : List Host.Cell → Nat → Option Byte
  | [], _ => none
  | c :: t, a => if c.1 = a then some c.2 else if a < c.1 then none else Memory.load t a

/-- The store with the byte at one offset written; the canonical form is kept. -/
def Memory.store : List Host.Cell → Nat → Byte → List Host.Cell
  | [], a, b => [(a, b)]
  | c :: t, a, b => if a < c.1 then (a, b) :: c :: t else if a = c.1 then (a, b) :: t else c :: Memory.store t a b

/-- The store with a byte string written at an offset. -/
def Memory.storeBytes : List Host.Cell → Nat → Bytes → List Host.Cell
  | m, _, [] => m
  | m, a, b :: bs => Memory.storeBytes (Memory.store m a b) (a + 1) bs

/-- The n bytes at an offset, none if one of them was never written. -/
def Memory.loadBytes (m : List Host.Cell) : Nat → Nat → Option Bytes
  | _, 0 => some []
  | a, n + 1 =>
    match Memory.load m a, Memory.loadBytes m (a + 1) n with
    | some b, some bs => some (b :: bs)
    | _, _ => none

/-- The staged byte at an offset (R49). -/
def State.stageByte (s : State) (a : Nat) : Option Byte := Memory.load s.stage a

/-- `StageWrite(off, b)` stays inside the store (R35). -/
def State.stageFits (off : Nat) (b : Bytes) (s : State) : Bool := decide (off + b.length ≤ s.cfg.stageCap)

/-- `StageWrite(off, b)` (R49). -/
def State.stageWrite (off : Nat) (b : Bytes) (s : State) : State :=
  { s with stage := Memory.storeBytes s.stage off b }

/-- `StageRead(off, n)` (R49). -/
def State.stageRead (off n : Nat) (s : State) : Option Bytes := Memory.loadBytes s.stage off n

end Sys2Proof.Machine
end

