-- ==== Sys2Proof/Machine/Engine.lean ====
section
/-! DEFINITION. The two engine procedures that commands, sessions and validation share: Encrypt and Decrypt over
RsaBlock (40_rsa R83, R86, R87), Hash (41_sha3 R102), and the bounded poll (R82). Each BUS row's meaning does one window
access and then one of the moves below. -/

namespace Sys2Proof.Machine

/-! ### Returning from an RSA operation -/

/-- The place of a session rule whose Encrypt or Decrypt has returned. -/
def returnPhase : RsaOp → Phase
  | .encrypt => .sealed
  | .decrypt => .opened

/-- Encrypt or Decrypt returns `out` to its caller: a session rule (the bytes are held for its next step), validation
step 1 (R134), or the command (R86, R87). -/
def State.rsaReturn (out : Bytes) (s : State) : State :=
  if s.seq.sess.active then
    { s with
      ses := { s.ses with held := out }
      seq := { s.seq with proc := .idle, phase := returnPhase s.rsa.op } }
  else if s.seq.run = .valDecrypt then
    { s with
      run := { s.run with decImg := out }
      seq := { s.seq with run := .valParse, proc := .idle, phase := .start } }
  else s.complete .ok out

/-! ### Blocks -/

/-- `RsaBlock` begins on a 64-byte block (R83): its words stand in `rsa_in`, `proc` at the first data write. -/
def State.loadBlock (blk : Bytes) (s : State) : State :=
  { s with
    rsa := { s.rsa with inp := blockOfBytes blk, filling := false }
    seq := { s.seq with proc := .rsaWrData 0 } }

/-- The next block's eight filler draws begin (R77, R86). -/
def State.startFilling (s : State) : State :=
  { s with
    rsa := { s.rsa with filler := [], filling := true }
    seq := { s.seq with proc := .idle } }

/-- One filler draw (R77); the eighth completes the header, and the block of segment k goes to the core (R78). -/
def State.fillStep (s : State) : State :=
  let f := s.rsa.filler ++ [s.fillerByte]
  let t := { s.tookFiller with rsa := { s.rsa with filler := f } }
  if f.length < 8 then t else t.loadBlock (padBlock (segAt s.rsa.src s.rsa.k) f)

/-- The registers of a new RSA operation of `n` blocks on `src` (R22); the step in which they are set, log 36. -/
def State.beginRsa (op : RsaOp) (key : KeySlot) (src : Bytes) (n : Nat) (s : State) : State :=
  { s with
    rsa := { s.rsa with key := key, nblk := n, k := 0, acc := [], op := op, src := src, filler := [], filling := false }
    seq := { s.seq with phase := .engine } }

/-- `Encrypt(P, key)` up to its first primitive (R86). -/
def State.encryptBegin (p : Bytes) (key : KeySlot) (s : State) : State :=
  if key = .devicePrivate then s.raise .keySlotMisuse
  else
    let t := s.beginRsa .encrypt key p (segCount p)
    if segCount p = 0 then t.rsaReturn [] else t.startFilling

/-- `Decrypt(C, key)` up to its first primitive (R87). -/
def State.decryptBegin (c : Bytes) (key : KeySlot) (s : State) : State :=
  if key ≠ .devicePrivate then s.raise .keySlotMisuse
  else if c.length = 0 ∨ c.length % 64 ≠ 0 then s.raise .badLength
  else (s.beginRsa .decrypt key c (c.length / 64)).loadBlock (cipherBlock c 0)

/-- Encrypt's step after a block's sixteen output words (R86); `rsa_k` advances after the last block too (log 37). -/
def State.encryptBlockDone (s : State) : State :=
  let acc := s.rsa.acc ++ unwords s.rsa.out.toList
  let t := { s with rsa := { s.rsa with acc := acc, k := s.rsa.k + 1 } }
  if s.rsa.k + 1 < s.rsa.nblk then t.startFilling else t.rsaReturn acc

/-- Decrypt's step after a block's sixteen output words: the header check under Strict (R79), the payload, the strip on
the last block only (R81), and the next block (R87). `rsa_k` advances after the last block too, to `rsa_nblk`, and stays
there: the loops of R86 and R87 end at the last block and leave it open (DESIGN CHOICE, log 37). -/
def State.decryptBlockDone (s : State) : State :=
  let o := unwords s.rsa.out.toList
  if s.cfg.hdrCheck = .strict ∧ hdrOk o = false then s.raise (.invalidPadding s.rsa.k)
  else
    let last := s.rsa.nblk ≤ s.rsa.k + 1
    let acc := s.rsa.acc ++ (if last then strip (payloadOf o) else payloadOf o)
    let t := { s with rsa := { s.rsa with acc := acc, k := s.rsa.k + 1 } }
    if last then t.rsaReturn acc else t.loadBlock (cipherBlock s.rsa.src (s.rsa.k + 1))

/-- `RsaBlock` returns to the operation that called it. -/
def State.blockDone (s : State) : State :=
  match s.rsa.op with
  | .encrypt => s.encryptBlockDone
  | .decrypt => s.decryptBlockDone

/-! ### The bounded poll (R82) -/

/-- The RSA poll begins: its count is 0 (R160) and its first read is next. -/
def State.startRsaPoll (s : State) : State :=
  { s with rsa := { s.rsa with pollcnt := 0 }, seq := { s.seq with proc := .rsaPoll 1 } }

/-- What the RSA poll does with the word of one read: done, one more read, or the timeout (R82). -/
def State.rsaPolled (w : Word) (s : State) : State :=
  let n := s.rsa.pollcnt + 1
  let t := { s with rsa := { s.rsa with pollcnt := n } }
  if s.rsaDoneIs w then t.goProc (.rsaRdData 0)
  else if s.cfg.pollMax ≤ n then (t.setSuspect .rsa).raise (.hardwareTimeout .rsa)
  else t.goProc (.rsaPoll (n + 1))

/-- The SHA3 poll begins. -/
def State.startShaPoll (s : State) : State :=
  { s with sha := { s.sha with pollcnt := 0 }, seq := { s.seq with proc := .shaPoll 1 } }

/-- What the SHA3 poll does with the word of one read (R82, R102). -/
def State.shaPolled (w : Word) (s : State) : State :=
  let n := s.sha.pollcnt + 1
  let t := { s with sha := { s.sha with pollcnt := n } }
  if s.shaReadyIs w then t.goProc (.shaRdDigest 0)
  else if s.cfg.pollMax ≤ n then (t.setSuspect .sha3).raise (.hardwareTimeout .sha3)
  else t.goProc (.shaPoll (n + 1))

/-! ### Hash (R102) -/

/-- `Hash(M, hex)` up to its first primitive, the reset write (the step in which its registers are set, log 36).
`sha_pollcnt` stays until the poll starts (R160). -/
def State.hashBegin (m : Bytes) (hex : Bool) (s : State) : State :=
  { s with
    sha := { s.sha with msg := shaPad m, j := 0, dig := [], hex := hex }
    seq := { s.seq with proc := .shaWrReset, phase := .engine } }

/-- The digest is read: it goes to validation step 3 (R136) or to the command, raw or hex (R102). -/
def State.hashDone (s : State) : State :=
  if s.seq.run = .valHash then
    { s with
      run := { s.run with digest := s.sha.dig }
      seq := { s.seq with run := .valCompare, proc := .idle, phase := .start } }
  else s.complete .ok (if s.sha.hex then hexEnc s.sha.dig else s.sha.dig)

end Sys2Proof.Machine
end

