-- ==== Sys2Proof/Machine/RsaBus.lean ====
section
/-! DEFINITION. The meanings of the RSA window's bus transactions (40_rsa R88 to R93): one access, then the move to the
procedure's next position (R83). -/

namespace Sys2Proof.Machine

/-- RSA_WR_DATA (R88): input word i, then word i+1 or the key select. -/
def execRsaWrData (i : Fin 16) (s : State) : Host.Outcome State Fault Refusal :=
  .next ((s.winRsaData i (blockGet s.rsa.inp i)).goProc
    (match nextIndex i with
     | some j => .rsaWrData j
     | none => .rsaWrKey))

/-- RSA_WR_KEYSEL (R89): the slot's index, then the start. -/
def execRsaWrKeysel (s : State) : Host.Outcome State Fault Refusal :=
  .next ((s.winRsaKeysel (keyIndexOf s.cfg.keyIndex s.rsa.key)).goProc .rsaWrStart)

/-- RSA_WR_START (R90): the value 1, then the poll. -/
def execRsaWrStart (s : State) : Host.Outcome State Fault Refusal :=
  .next (s.winRsaStart rsaStartValue).startRsaPoll

/-- RSA_RD_STATUS (R91): one read of the poll (R82). -/
def execRsaRdStatus (s : State) : Host.Outcome State Fault Refusal :=
  .next (s.tookRsaStatus.rsaPolled s.rsaStatusWord)

/-- RSA_RD_DATA (R92): output word i, then word i+1 or the end of the block. -/
def execRsaRdData (i : Fin 16) (s : State) : Host.Outcome State Fault Refusal :=
  let t := { s with rsa := { s.rsa with out := blockSet s.rsa.out i (blockGet s.rsaWin.dout i) } }
  .next (match nextIndex i with
    | some j => t.goProc (.rsaRdData j)
    | none => t.blockDone)

/-- RSA_WR_STOP (R93): never issued, its effect not in the source; refused when asked for (93 U10). -/
def execRsaWrStop (_ : State) : Host.Outcome State Fault Refusal := .refused .rsaStopNotInSource

end Sys2Proof.Machine
end

