-- ==== Sys2Proof/WellFormed.lean ====
section
/-! DEFINITION. Which codes are legal encodings (30_encoding R65, R67, R69, R73), written as the match and mask rows of
the spec's own tables, apart from the decoder. An `Instr` needs no check of its own: its types (a named key slot, a
word index below 16) leave no ill-formed instruction to write. -/

namespace Sys2Proof

/-- A row of a match and mask table: a code matches when its bits under `mask` equal `pattern`. -/
structure MaskRow (n : Nat) where
  pattern : BitVec n
  mask    : BitVec n
deriving DecidableEq, Repr

/-- A code of `n` bits matches a row. -/
def MaskRow.admits {n : Nat} (r : MaskRow n) (v : BitVec n) : Bool := v &&& r.mask == r.pattern

/-- The thirteen bus transactions of R67, in the table's order. -/
def busRows : List (MaskRow 10) :=
  [⟨0x100, 0x3C3⟩, ⟨0x140, 0x3FF⟩, ⟨0x144, 0x3FF⟩, ⟨0x040, 0x3FF⟩, ⟨0x000, 0x3C3⟩, ⟨0x148, 0x3FF⟩, ⟨0x304, 0x3FF⟩]
  ++ [⟨0x308, 0x3FF⟩, ⟨0x20C, 0x3FF⟩, ⟨0x210, 0x3FF⟩, ⟨0x22C, 0x3FF⟩, ⟨0x340, 0x3FF⟩, ⟨0x348, 0x3FF⟩]

/-- The ten message tags of R69. -/
def msgTags : List (BitVec 8) := [0x10, 0x11, 0x12, 0x13, 0x14, 0x15, 0x16, 0x21, 0x22, 0x23]

/-- The opcode field of a command word, bits 7:0 (R65). -/
def cmdOp (w : BitVec 32) : BitVec 8 := w.extractLsb' 0 8

/-- The key field of a command word, bits 9:8 (R65). -/
def cmdKey (w : BitVec 32) : BitVec 2 := w.extractLsb' 8 2

/-- The hex bit of a command word, bit 10 (R65). -/
def cmdHex (w : BitVec 32) : BitVec 1 := w.extractLsb' 10 1

/-- The reserved field of a command word, bits 31:11 (R65). -/
def cmdReserved (w : BitVec 32) : BitVec 21 := w.extractLsb' 11 21

/-- The five opcodes (R66). -/
def cmdOpLegal (w : BitVec 32) : Bool := 1 ≤ (cmdOp w).toNat && (cmdOp w).toNat ≤ 5

/-- The key field: never 3, and 0 on an opcode other than RSA_ENCRYPT and RSA_DECRYPT (R65, R73.1). -/
def cmdKeyLegal (w : BitVec 32) : Bool :=
  cmdKey w != 3 && (cmdKey w == 0 || cmdOp w == 1 || cmdOp w == 2)

/-- The hex bit: 0 on an opcode other than SHA3_HASH (R65, R73.1). -/
def cmdHexLegal (w : BitVec 32) : Bool := cmdHex w == 0 || cmdOp w == 4

/-- The reserved bits are 0 (R65, R73.1). -/
def cmdReservedLegal (w : BitVec 32) : Bool := cmdReserved w == 0

/-- A legal code: a command word that R73.1 does not call illegal, a descriptor that matches a row of R67, a tag of R69. -/
def Code.wellFormed : Code → Bool
  | .cmd w => cmdOpLegal w && cmdKeyLegal w && cmdHexLegal w && cmdReservedLegal w
  | .bus d => busRows.any (·.admits d)
  | .msg t => msgTags.contains t

end Sys2Proof
end

