-- ==== Sys2Proof/Decode.lean ====
section
/-! DEFINITION. The decoder of the three code formats (30_encoding R65 to R69, R73), total, rejecting by name; after it
the encoder, written from the same tables. -/

namespace Sys2Proof

/-- Why a code is no instruction. -/
inductive DecodeError
  /-- A command word that R73.1 calls illegal: its opcode field is 0x00 or 0x06..0xFF. -/
  | badOpcode
  /-- Illegal command word: the key field is 3. -/
  | badKey
  /-- Illegal command word: a non-zero key field on an opcode that takes no key. -/
  | strayKey
  /-- Illegal command word: the hex bit on an opcode other than SHA3_HASH. -/
  | strayHex
  /-- Illegal command word: a bit of 31:11 is set. -/
  | reservedBits
  /-- A bus descriptor whose offset is no multiple of 4 (R43). -/
  | misaligned
  /-- A bus descriptor that no row of R67 matches (R73.3). -/
  | reservedOffset
  /-- A message tag that R69 does not list. -/
  | unknownTag
deriving DecidableEq, Repr

/-- The key slot of a command's key field (R59); 3 is reserved. -/
def keyOfCode (k : BitVec 2) : Except DecodeError KeySlot :=
  match k.toNat with
  | 0 => .ok .devicePrivate
  | 1 => .ok .updatingOrgPublic
  | 2 => .ok .confirmingOrgPublic
  | _ => .error .badKey

/-- The code of a key slot in a command word (R59). -/
def codeOfKey : KeySlot → BitVec 2
  | .devicePrivate => 0
  | .updatingOrgPublic => 1
  | .confirmingOrgPublic => 2

/-- A command that takes no key and no hex bit (R65). -/
def plainCmd (w : BitVec 32) (i : Instr) : Except DecodeError Instr :=
  if cmdKey w = 3 then .error .badKey
  else if cmdKey w ≠ 0 then .error .strayKey
  else if cmdHex w ≠ 0 then .error .strayHex
  else .ok i

/-- A command that takes a key (R65). -/
def keyedCmd (w : BitVec 32) (f : KeySlot → Instr) : Except DecodeError Instr :=
  if cmdHex w ≠ 0 then .error .strayHex else (keyOfCode (cmdKey w)).map f

/-- The command words (R65, R66, R73.1). -/
def decodeCmd (w : BitVec 32) : Except DecodeError Instr :=
  if cmdReserved w ≠ 0 then .error .reservedBits
  else match (cmdOp w).toNat with
    | 1 => keyedCmd w .rsaEncrypt
    | 2 => keyedCmd w .rsaDecrypt
    | 3 => plainCmd w .sha3Reset
    | 4 =>
      if cmdKey w = 3 then .error .badKey
      else if cmdKey w ≠ 0 then .error .strayKey
      else .ok (.sha3Hash (cmdHex w == 1))
    | 5 => plainCmd w .protoRun
    | _ => .error .badOpcode

/-- Bit 9 of a descriptor: the core (R67). -/
def busCore (d : BitVec 10) : CoreId := if d.getLsbD 9 then .sha3 else .rsa

/-- Bit 8 of a descriptor: 1 is a write (R67). -/
def busIsWrite (d : BitVec 10) : Bool := d.getLsbD 8

/-- Bits 7:0 of a descriptor: the byte offset in the window (R67). -/
def busOffset (d : BitVec 10) : Nat := (d.extractLsb' 0 8).toNat

/-- Bits 5:2 of a descriptor: the word index of RSA_WR_DATA and RSA_RD_DATA (R67). -/
def busIndex (d : BitVec 10) : Fin 16 := (d.extractLsb' 2 4).toFin

/-- Writes of the RSA window (10_state R29): data words, KEYSEL, START, STOP. -/
def decodeRsaWrite (d : BitVec 10) : Except DecodeError Instr :=
  if busOffset d < 0x40 then .ok (.rsaWrData (busIndex d))
  else match busOffset d with
    | 0x40 => .ok .rsaWrKeysel
    | 0x44 => .ok .rsaWrStart
    | 0x48 => .ok .rsaWrStop
    | _ => .error .reservedOffset

/-- Reads of the RSA window: data words and STATUS. -/
def decodeRsaRead (d : BitVec 10) : Except DecodeError Instr :=
  if busOffset d < 0x40 then .ok (.rsaRdData (busIndex d))
  else match busOffset d with
    | 0x40 => .ok .rsaRdStatus
    | _ => .error .reservedOffset

/-- Writes of the SHA3 window (10_state R30): RESET, START, FIFO, COUNT. -/
def decodeShaWrite (d : BitVec 10) : Except DecodeError Instr :=
  match busOffset d with
  | 0x04 => .ok .sha3WrReset
  | 0x08 => .ok .sha3WrStart
  | 0x40 => .ok .sha3WrFifo
  | 0x48 => .ok .sha3WrCount
  | _ => .error .reservedOffset

/-- Reads of the SHA3 window: READY, FULL, DIGEST. -/
def decodeShaRead (d : BitVec 10) : Except DecodeError Instr :=
  match busOffset d with
  | 0x0C => .ok .sha3RdReady
  | 0x10 => .ok .sha3RdFull
  | 0x2C => .ok .sha3RdDigest
  | _ => .error .reservedOffset

/-- The bus descriptors (R67); a misaligned offset (R43) and an unlisted one (R73.3) are rejected. -/
def decodeBus (d : BitVec 10) : Except DecodeError Instr :=
  if busOffset d % 4 ≠ 0 then .error .misaligned
  else match busCore d, busIsWrite d with
    | .rsa, true => decodeRsaWrite d
    | .rsa, false => decodeRsaRead d
    | .sha3, true => decodeShaWrite d
    | .sha3, false => decodeShaRead d

/-- The message tags (R69). -/
def decodeMsg (t : BitVec 8) : Except DecodeError Instr :=
  match t.toNat with
  | 0x10 => .ok .updateCheck
  | 0x11 => .ok .m1
  | 0x12 => .ok .m2
  | 0x13 => .ok .m3
  | 0x14 => .ok .updateImage
  | 0x15 => .ok .ok
  | 0x16 => .ok .imageData
  | 0x21 => .ok .orgChallenge
  | 0x22 => .ok .deviceChallenge
  | 0x23 => .ok .orgResponse
  | _ => .error .unknownTag

/-- The instruction a code stands for, or why it stands for none. -/
def decode : Code → Except DecodeError Instr
  | .cmd w => decodeCmd w
  | .bus d => decodeBus d
  | .msg t => decodeMsg t

/-- A command word with the given fields and its reserved bits 0 (R65). -/
def cmdWord (op : BitVec 8) (key : BitVec 2) (hex : Bool) : BitVec 32 :=
  (0 : BitVec 21) ++ BitVec.ofBool hex ++ key ++ op

/-- A bus descriptor with the given fields (R67). -/
def busWord (core : CoreId) (isWrite : Bool) (offset : BitVec 8) : BitVec 10 :=
  BitVec.ofBool (core == .sha3) ++ BitVec.ofBool isWrite ++ offset

/-- The offset 4i of data word i (R61). -/
def dataOffset (i : Fin 16) : BitVec 8 := BitVec.ofNat 8 (4 * i.val)

/-- The code of an instruction (R66, R67, R69). -/
def encode : Instr → Code
  | .rsaEncrypt key => .cmd (cmdWord 0x01 (codeOfKey key) false)
  | .rsaDecrypt key => .cmd (cmdWord 0x02 (codeOfKey key) false)
  | .sha3Reset => .cmd (cmdWord 0x03 0 false)
  | .sha3Hash hex => .cmd (cmdWord 0x04 0 hex)
  | .protoRun => .cmd (cmdWord 0x05 0 false)
  | .rsaWrData i => .bus (busWord .rsa true (dataOffset i))
  | .rsaWrKeysel => .bus (busWord .rsa true 0x40)
  | .rsaWrStart => .bus (busWord .rsa true 0x44)
  | .rsaRdStatus => .bus (busWord .rsa false 0x40)
  | .rsaRdData i => .bus (busWord .rsa false (dataOffset i))
  | .rsaWrStop => .bus (busWord .rsa true 0x48)
  | .sha3WrReset => .bus (busWord .sha3 true 0x04)
  | .sha3WrStart => .bus (busWord .sha3 true 0x08)
  | .sha3RdReady => .bus (busWord .sha3 false 0x0C)
  | .sha3RdFull => .bus (busWord .sha3 false 0x10)
  | .sha3RdDigest => .bus (busWord .sha3 false 0x2C)
  | .sha3WrFifo => .bus (busWord .sha3 true 0x40)
  | .sha3WrCount => .bus (busWord .sha3 true 0x48)
  | .updateCheck => .msg 0x10
  | .m1 => .msg 0x11
  | .m2 => .msg 0x12
  | .m3 => .msg 0x13
  | .updateImage => .msg 0x14
  | .ok => .msg 0x15
  | .imageData => .msg 0x16
  | .orgChallenge => .msg 0x21
  | .deviceChallenge => .msg 0x22
  | .orgResponse => .msg 0x23

/-- The command word of a command; 0, an illegal word, for a row of another format. -/
def Instr.word (i : Instr) : BitVec 32 :=
  match encode i with
  | .cmd w => w
  | .bus _ => 0
  | .msg _ => 0

/-- The code whose bits are `w` in a row that the opcode table gives `nbits` bits, in whole bytes. The three formats
differ in width: a tag has 8 bits, a descriptor 10 (so 16 in whole bytes), a command word 32. Bits past the format's
width must be 0. -/
def codeOfBits (nbits w : Nat) : Option Code :=
  if nbits ≤ 8 then if w < 2 ^ 8 then some (.msg (BitVec.ofNat 8 w)) else none
  else if nbits ≤ 16 then if w < 2 ^ 10 then some (.bus (BitVec.ofNat 10 w)) else none
  else if w < 2 ^ 32 then some (.cmd (BitVec.ofNat 32 w)) else none

/-- What the decoder reads from the bits of an opcode-table row; none where it refuses. -/
def decodeTableWord (nbits w : Nat) : Option Instr :=
  match codeOfBits nbits w with
  | none => none
  | some c =>
    match decode c with
    | .ok i => some i
    | .error _ => none

end Sys2Proof
end

