-- ==== Sys2Proof/Machine/Session.lean ====
section
/-! DEFINITION. The session rules that the message rows share (42_protocol R112 to R118): receiving a frame, starting a
session, and the top-level run's moves between sessions (R130 to R133). -/

namespace Sys2Proof.Machine

/-! ### RecvFrame (R114, R115) -/

/-- How many bytes the `RecvExact` now running wants: the length field's, or the body's. -/
def State.rxWant (s : State) : Nat :=
  match s.ses.rx with
  | .lenField => s.codec.pfxWidth
  | .body len => len

/-- The frame's body has been received whole. -/
def State.frameReady (s : State) : Bool :=
  match s.ses.rx with
  | .lenField => false
  | .body len => decide (len ≤ s.ses.rxBuf.length)

/-- The receiver is back at a length field with an empty buffer. -/
def State.rxClear (s : State) : State := { s with ses := { s.ses with rx := .lenField, rxBuf := [] } }

/-- The length field has been received: the body's length, or one of the two frame errors (R115). -/
def State.lenFieldDone (s : State) : State :=
  match s.codec.bodyLen s.ses.rxBuf with
  | none => s.raise .badPrefix
  | some len =>
    if ctrlRxMax < s.codec.pfxWidth + len then s.raise .frameTooLong
    else { s with ses := { s.ses with rx := .body len, rxBuf := [] } }

/-- One step of `RecvFrame` before the body is whole: a guarded `Recv` of what is still wanted (R114, R116), or, when
the length field is whole, its reading. -/
def State.recvFrameStep (s : State) : State :=
  if s.ses.rxBuf.length < s.rxWant then
    s.guarded (State.recvThen (s.rxWant - s.ses.rxBuf.length)
      fun r t => { t with ses := { t.ses with rxBuf := t.ses.rxBuf ++ r } })
  else s.lenFieldDone

/-- A receiving rule: `RecvFrame`, and then `k` on the body in a step of its own. -/
def State.onFrame (k : Bytes → State → State) (s : State) : State :=
  if s.frameReady then k s.ses.rxBuf s.rxClear else s.recvFrameStep

/-- M1 and M3 share this: the body's ciphertext, CheckCancel, and Decrypt with DevicePrivate (R121, R124). -/
def State.openBody (par : Bytes → Option Bytes) (bad : Cause) (b : Bytes) (s : State) : State :=
  match par b with
  | none => s.raise bad
  | some ct => s.guarded (State.decryptBegin ct .devicePrivate)

/-! ### Sessions and the run (R117, R130 to R133) -/

/-- A session starts (R117). -/
def State.startSession (role : Role) (i : Nat) (s : State) : State :=
  { s with
    ses := Session.fresh role
    run := { s.run with orgIdx := i }
    seq := { s.seq with sess := .init, proc := .idle, phase := .start } }

/-- `Run()` begins (R132). -/
def State.startRun (s : State) : State :=
  State.startSession .updating 0
    { s with
      run := { s.run with
        checkSent := false, attests := [], sessLog := [], imgLen := 0, decImg := [], hdr := none, firstGcErr := none }
      out := { s.out with ready := false }
      seq := { s.seq with run := .runGU } }

/-- The run ends in RunFailed with FAIL, and `err` is the run's first error: the kept GC error if there is one, else
the error as it stands (R132, R133, R151; log 34). -/
def State.failRun (s : State) : State :=
  State.complete .fail [] (State.goRun .runFailed { s with err := s.run.firstGcErr.getD s.err })

/-- After an organization: the next GC session, or the run's end with the kept GC error, or validation (R132). -/
def State.nextOrg (s : State) : State :=
  if s.run.orgIdx + 1 < s.cfg.nOrgs then (s.goRun .runGC).startSession .confirming (s.run.orgIdx + 1)
  else match s.run.firstGcErr with
    | some _ => s.failRun
    | none => { s with seq := { s.seq with run := .valDecrypt, sess := .noSession, proc := .idle, phase := .start } }

/-- The session's lasting results at its success (R130). -/
def State.recordSuccess (s : State) : State :=
  { s with
    run := { s.run with
      sessLog := s.run.sessLog ++ [(s.run.orgIdx, .success)]
      attests := match s.ses.role with
        | .updating => s.run.attests
        | .confirming => s.run.attests ++ [s.ses.attest]
      imgLen := match s.ses.role with
        | .updating => s.ses.imgSize
        | .confirming => s.run.imgLen } }

/-- SessionDone (R130): the success is recorded and the run goes on. -/
def State.sessionDoneStep (s : State) : State := s.recordSuccess.nextOrg

/-- The first error of the GC loop is kept (R132, R151). -/
def keepFirst (kept : Option ErrRec) (e : ErrRec) : Option ErrRec :=
  match kept with
  | some f => some f
  | none => some e

/-- Failed (R131): what the run does with the failure (R132, R133). The GU's failure ends it; a GC's ends it under
Abort and at a TransportFailure, and is kept under Continue. -/
def State.failedStep (s : State) : State :=
  if s.seq.run = .runGC ∧ s.cfg.confirmFail = .goOn ∧ s.err.kind ≠ .transportFailure then
    State.nextOrg { s with run := { s.run with firstGcErr := keepFirst s.run.firstGcErr s.err } }
  else s.failRun

/-- Authenticated (R125). -/
def State.authenticatedStep (s : State) : State :=
  match s.ses.role with
  | .confirming => s.goSess .sessionDone
  | .updating => s.goSess .awaitImageSize

end Sys2Proof.Machine
end

