-- ==== Sys2Proof/Machine/Commands.lean ====
section
/-! DEFINITION. The meanings of the five host commands: the acceptance step (60_exceptions R147) with the start of the
command's rule, up to its first primitive. -/

namespace Sys2Proof.Machine

/-- A command word presented on the port, with the state `t` in which its acceptance ends. While busy it has no effect
and is not queued (R17); with a boot requirement unmet it is refused (R167). -/
def State.gated (s t : State) : Host.Outcome State Fault Refusal :=
  if s.port.busy then .next s
  else if s.env.boot.met then .next t
  else .refused .bootUnmet

/-- A legal command word: its acceptance with the start `k` of its rule. -/
def State.command (w : Word) (k : Bytes → State → State) (s : State) : Host.Outcome State Fault Refusal :=
  s.gated (k s.presentedData (s.accept w s.presentedData))

/-- RSA_ENCRYPT (R86): Encrypt(arg_data, key). -/
def execRsaEncrypt (key : KeySlot) (s : State) : Host.Outcome State Fault Refusal :=
  s.command (Instr.rsaEncrypt key).word fun p t => t.encryptBegin p key

/-- RSA_DECRYPT (R87): Decrypt(arg_data, key). -/
def execRsaDecrypt (key : KeySlot) (s : State) : Host.Outcome State Fault Refusal :=
  s.command (Instr.rsaDecrypt key).word fun c t => t.decryptBegin c key

/-- SHA3_RESET (R101): the reset write is next; arg_data is ignored. -/
def execSha3Reset (s : State) : Host.Outcome State Fault Refusal :=
  s.command Instr.sha3Reset.word fun _ t => { t with seq := { t.seq with proc := .shaWrReset, phase := .engine } }

/-- SHA3_HASH (R102): Hash(arg_data, hex). -/
def execSha3Hash (hex : Bool) (s : State) : Host.Outcome State Fault Refusal :=
  s.command (Instr.sha3Hash hex).word fun m t => t.hashBegin m hex

/-- PROTO_RUN (R132): Run(); arg_data is ignored. -/
def execProtoRun (s : State) : Host.Outcome State Fault Refusal :=
  s.command Instr.protoRun.word fun _ t => t.startRun

/-- An illegal command word (R73.1, R149): accepted, and ended at once with ILLEGAL. The host's line is taken, and
nothing of ZU-CORE changes but the result registers and, as at every acceptance (R33), `ready_to_install`. DEDUCED,
log 16. -/
def State.illegalCommand (s : State) : Host.Outcome State Fault Refusal :=
  s.gated
    { s with
      port := { s.port with resStatus := .illegal, resData := [] }
      err := ErrRec.clear
      out := { s.out with ready := false }
      env := { s.env with program := s.env.program.tail } }

end Sys2Proof.Machine
end

