-- ==== Sys2Proof/Machine/Messages.lean ====
section
/-! DEFINITION. The meanings of the ten message rows (42_protocol R119 to R129). Each is one step of the message's rule:
one primitive or none, then the move to the rule's next place. -/

namespace Sys2Proof.Machine

/-- UpdateCheck (R119): sent once per run; in every later session nothing is sent. -/
def execUpdateCheck (s : State) : Host.Outcome State Fault Refusal :=
  .next (
    if s.run.checkSent then s.goSess .checkSent
    else s.guarded (State.sendThen (frame s.codec (s.codec.serUpdateCheck ⟨s.cfg.fwVersion, s.cfg.deviceId⟩))
      fun t => State.goSess .checkSent { t with run := { t.run with checkSent := true } }))

/-- M1 (R121): the frame, its ciphertext, and the start of its decryption. -/
def execM1 (s : State) : Host.Outcome State Fault Refusal :=
  .next (s.onFrame (State.openBody s.codec.parM1 .m1))

/-- OrgChallenge (R121): the decrypted content of M1 gives `s_ng`. -/
def execOrgChallenge (s : State) : Host.Outcome State Fault Refusal :=
  .next (match s.codec.parOrgChallenge s.ses.held with
    | none => s.raise .orgChallenge
    | some ng => State.goPhase .nonce { s with ses := { s.ses with ng := ng } })

/-- DeviceChallenge (R122, R123): the nonce is drawn, and the challenge's encryption for the organization begins. -/
def execDeviceChallenge (s : State) : Host.Outcome State Fault Refusal :=
  let t := { s.tookNonce with ses := { s.ses with nd := s.nonceWord } }
  .next (t.guarded (State.encryptBegin
    (s.codec.serDeviceChallenge ⟨s.cfg.deviceId, s.ses.ng, s.nonceWord⟩) (publicSlot s.ses.role)))

/-- M2 (R123): the encrypted challenge is sent. -/
def execM2 (s : State) : Host.Outcome State Fault Refusal :=
  .next (s.guarded (State.sendThen (frame s.codec (s.codec.serM2 s.ses.held)) (State.goSess .challengeSent)))

/-- M3 (R124): the frame, its ciphertext, and the start of its decryption. -/
def execM3 (s : State) : Host.Outcome State Fault Refusal :=
  .next (s.onFrame (State.openBody s.codec.parM3 .m3))

/-- OrgResponse (R124): the decrypted content of M3; the nonce check; a confirming organization's attestation. -/
def execOrgResponse (s : State) : Host.Outcome State Fault Refusal :=
  .next (match s.codec.parOrgResponse s.ses.held with
    | none => s.raise .orgResponse
    | some r =>
      if r.ndEcho ≠ s.ses.nd then s.raise .nonceMismatch
      else State.goSess .authenticated
        { s with ses := { s.ses with
            ok := true
            attest := match s.ses.role with
              | .updating => s.ses.attest
              | .confirming => r.hashAttestation } })

/-- UpdateImage (R126): the frame, the size, and its bound. -/
def execUpdateImage (s : State) : Host.Outcome State Fault Refusal :=
  .next (s.onFrame fun b t =>
    match s.codec.parUpdateImage b with
    | none => t.raise .updateImage
    | some size =>
      if s.cfg.stageCap < size.toNat then t.raise .imageTooLarge
      else State.goPhase .ack { t with ses := { t.ses with imgSize := size } })

/-- Where the acknowledgment leads: into the image after UpdateImage (R126), out of the session after it (R129). -/
def okNext : SessState → SessState
  | .awaitImageSize => .receivingImage
  | .imageComplete => .sessionDone
  | .init => .init
  | .checkSent => .checkSent
  | .awaitM1 => .awaitM1
  | .challengeSent => .challengeSent
  | .awaitM3 => .awaitM3
  | .authenticated => .authenticated
  | .receivingImage => .receivingImage
  | .sessionDone => .sessionDone
  | .failed => .failed
  | .noSession => .noSession

/-- OK (R128, with R126 and R129). -/
def execOk (s : State) : Host.Outcome State Fault Refusal :=
  .next (s.guarded (State.sendThen okBytes fun t => t.goSess (okNext t.seq.sess)))

/-- The held chunk is staged at the running offset (R127). -/
def State.stageChunk (s : State) : Host.Outcome State Fault Refusal :=
  if s.stageFits s.ses.imgRcvd s.ses.held then
    .next (State.goPhase .start
      { s.stageWrite s.ses.imgRcvd s.ses.held with
        ses := { s.ses with imgRcvd := s.ses.imgRcvd + s.ses.held.length, held := [] } })
  else .fault .stageOutOfRange

/-- ImageData (R127): a guarded Recv of at most 4096 bytes and of what remains, or the staging of what came, or the
loop's end. -/
def execImageData (s : State) : Host.Outcome State Fault Refusal :=
  if s.seq.phase = .chunk then s.stageChunk
  else .next (
    if s.ses.imgRcvd < s.ses.imgSize.toNat then
      s.guarded (State.recvThen (min imgChunk (s.ses.imgSize.toNat - s.ses.imgRcvd))
        fun r t => State.goPhase .chunk { t with ses := { t.ses with held := r } })
    else s.goSess .imageComplete)

end Sys2Proof.Machine
end

