-- ==== Sys2Proof/Machine/Validation.lean ====
section
/-! DEFINITION. Post-exchange validation (42_protocol R134 to R139), which no opcode-table row names. -/

namespace Sys2Proof.Machine

/-- Step 1 (R134): the staged image is read and its decryption begins. A byte that was never written has no value
(R49). -/
def State.valDecryptStep (s : State) : Host.Outcome State Fault Refusal :=
  match s.stageRead 0 s.run.imgLen.toNat with
  | none => .fault .stageUnwritten
  | some img => .next (s.decryptBegin img .devicePrivate)

/-- Step 2 (R135): the header. -/
def State.valParseStep (s : State) : State :=
  if s.run.decImg.length < imgHdrLen then s.raise .shortImage
  else State.goRun .valHash { s with run := { s.run with hdr := some (parseHeader s.run.decImg) } }

/-- Step 3 (R136): the payload's hash begins, raw. -/
def State.valHashStep (s : State) : State := s.hashBegin (imagePayload s.run.decImg) false

/-- Step 5 (R139): ready to install. -/
def State.readyToInstall (h : ImageHeader) (s : State) : State :=
  State.complete .ok []
    { s with
      out := { ready := true, installHdr := h, installPayload := imagePayload s.run.decImg }
      seq := { s.seq with run := .runReady } }

/-- Steps 4 and 5 (R138, R139): the header's hash first, then the attestations in organization order. -/
def State.valCompareStep (s : State) : State :=
  match s.run.hdr with
  | none => s.raise .headerMismatch
  | some h =>
    if s.run.digest ≠ h.hash then s.raise .headerMismatch
    else match firstMismatch s.cfg.attestEnc s.run.digest 1 s.run.attests with
      | some i => s.raise (.attestMismatch i)
      | none => s.readyToInstall h

end Sys2Proof.Machine
end

