-- ==== Sys2Proof/Machine/Sequencer.lean ====
section
/-! DEFINITION. What ZU-CORE does next: the code of the instruction its sequencing state (10_state R18 to R21) and its
command port select, the steps that no instruction names, and the effect of reset (70_reset R165). -/

namespace Sys2Proof.Machine

/-- The bus transaction at a position of an engine procedure (R83, R102), as an instruction. -/
def procInstr : Proc → Option Instr
  | .idle => none
  | .rsaWrData i => some (.rsaWrData i)
  | .rsaWrKey => some .rsaWrKeysel
  | .rsaWrStart => some .rsaWrStart
  | .rsaPoll _ => some .rsaRdStatus
  | .rsaRdData i => some (.rsaRdData i)
  | .shaWrReset => some .sha3WrReset
  | .shaWrFifo _ => some .sha3WrFifo
  | .shaWrStart => some .sha3WrStart
  | .shaPoll _ => some .sha3RdReady
  | .shaRdDigest _ => some .sha3RdDigest

/-- The message row at a place of the session (R118), as its tag (R69); none where no message is handled. -/
def sessionTag (sess : SessState) (phase : Phase) : Option (BitVec 8) :=
  match sess, phase with
  | .init, _ => some 0x10
  | .awaitM1, .start => some 0x11
  | .awaitM1, .opened => some 0x21
  | .awaitM1, .nonce => some 0x22
  | .awaitM1, .sealed => some 0x12
  | .awaitM3, .start => some 0x13
  | .awaitM3, .opened => some 0x23
  | .awaitImageSize, .start => some 0x14
  | .awaitImageSize, .ack => some 0x15
  | .receivingImage, _ => some 0x16
  | .imageComplete, _ => some 0x15
  | _, _ => none

/-- The code of the next instruction: the presented command word when idle (R147), else the transaction at `proc`, else
the message of the session's place; none for a step that no instruction names. -/
def fetch (s : State) : Option Code :=
  if s.port.busy then
    match procInstr s.seq.proc with
    | some i => some (encode i)
    | none => if s.rsa.filling then none else (sessionTag s.seq.sess s.seq.phase).map .msg
  else
    match s.env.program with
    | [] => none
    | l :: _ => some (.cmd l.word)

/-- A validation position, or none (R134 to R139). -/
def State.runSilentStep (s : State) : Host.Outcome State Fault Refusal :=
  match s.seq.run with
  | .valDecrypt => s.valDecryptStep
  | .valParse => .next s.valParseStep
  | .valHash => .next s.valHashStep
  | .valCompare => .next s.valCompareStep
  | .runIdle | .runGU | .runGC | .runReady | .runFailed => .fault .noRule

/-- The step where `fetch` gives no code: idle between commands (60_exceptions R164), a filler draw (R77), a silent
session state (R120, R125, R130, R131), or validation. -/
def State.silentStep (s : State) : Host.Outcome State Fault Refusal :=
  if s.port.busy = false then .next s
  else if s.rsa.filling then .next s.fillStep
  else match s.seq.sess with
    | .checkSent => .next (s.goSess .awaitM1)
    | .challengeSent => .next (s.goSess .awaitM3)
    | .authenticated => .next s.authenticatedStep
    | .sessionDone => .next s.sessionDoneStep
    | .failed => .next s.failedStep
    | .noSession => s.runSilentStep
    | .init | .awaitM1 | .awaitM3 | .awaitImageSize | .receivingImage | .imageComplete => .fault .noRule

/-- A code that is no instruction: an illegal command word (R73.1), or a bus access that is refused (R43, R73.3). -/
def State.rejectCode (c : Code) (e : DecodeError) (s : State) : Host.Outcome State Fault Refusal :=
  match c with
  | .cmd _ => s.illegalCommand
  | .bus _ => .refused (if e = .misaligned then .misalignedAccess else .reservedOffset)
  | .msg _ => .fault .noRule

/-- Reset (R165): every element of ZU-CORE takes its reset value, with no bus, transport or staging access. What the
windows hold afterwards is not fixed (R166, 93_implementation_defined U11): any value, new at every reset (log 4). The
configuration stays; so do the staging store and the transport, which R165.3 says reset does not touch and R166 leaves to
the platform (DESIGN CHOICE, unsafe, log 35). -/
def State.applyReset (s : State) : State :=
  let n := s.env.draws + 1
  { State.resetWith s.cfg with
    rsaWin := freeRsaWindow n, shaWin := freeShaWindow n, stage := s.stage, env := { s.env with draws := n } }

/-- The request to issue a bus access (log 14) has been taken. -/
def State.dropRequest (s : State) : State := { s with env := { s.env with busRequest := none } }

/-! ### Placing an instruction (log 15) -/

/-- Idle, with a command word presented and no operand. -/
def State.presenting (w : Word) (s : State) : State :=
  { s with
    port := { s.port with busy := false }
    env := { s.env with program := ⟨w, []⟩ :: s.env.program, resetIn := false, busRequest := none } }

/-- Busy, at a position of an engine procedure. -/
def State.atProc (p : Proc) (s : State) : State :=
  { s with
    port := { s.port with busy := true }
    seq := { s.seq with proc := p }
    env := { s.env with resetIn := false, busRequest := none } }

/-- Busy, in a run's session at a place of its FSM. -/
def State.atSession (sess : SessState) (phase : Phase) (s : State) : State :=
  { s with
    port := { s.port with busy := true }
    seq := { run := .runGU, sess := sess, proc := .idle, phase := phase }
    rsa := { s.rsa with filling := false }
    env := { s.env with resetIn := false, busRequest := none } }

/-- Asked to issue a bus access. -/
def State.requesting (d : BitVec 10) (s : State) : State :=
  { s with env := { s.env with resetIn := false, busRequest := some d } }

/-- The position of an engine procedure at which a transaction is issued, none for the rows ZU-CORE never issues. -/
def procOf (i : Instr) (s : State) : Option Proc :=
  match i with
  | .rsaWrData i => some (.rsaWrData i)
  | .rsaWrKeysel => some .rsaWrKey
  | .rsaWrStart => some .rsaWrStart
  | .rsaRdStatus => some (.rsaPoll (s.rsa.pollcnt + 1))
  | .rsaRdData i => some (.rsaRdData i)
  | .sha3WrReset => some .shaWrReset
  | .sha3WrFifo => some (.shaWrFifo s.sha.j)
  | .sha3WrStart => some .shaWrStart
  | .sha3RdReady => some (.shaPoll (s.sha.pollcnt + 1))
  | .sha3RdDigest => some (.shaRdDigest (Fin.ofNat 16 (s.sha.dig.length / 4)))
  | .rsaEncrypt _ | .rsaDecrypt _ | .sha3Reset | .sha3Hash _ | .protoRun | .rsaWrStop | .sha3RdFull | .sha3WrCount
  | .updateCheck | .m1 | .m2 | .m3 | .updateImage | .ok | .imageData | .orgChallenge | .deviceChallenge
  | .orgResponse => none

/-- The session place at which a message's row is fetched; a tag that R69 does not list changes nothing. -/
def State.atTag (t : BitVec 8) (s : State) : State :=
  match t.toNat with
  | 0x10 => s.atSession .init .start
  | 0x11 => s.atSession .awaitM1 .start
  | 0x12 => s.atSession .awaitM1 .sealed
  | 0x13 => s.atSession .awaitM3 .start
  | 0x14 => s.atSession .awaitImageSize .start
  | 0x15 => s.atSession .imageComplete .start
  | 0x16 => s.atSession .receivingImage .start
  | 0x21 => s.atSession .awaitM1 .opened
  | 0x22 => s.atSession .awaitM1 .nonce
  | 0x23 => s.atSession .awaitM3 .opened
  | _ => s

/-- The state in which the very next step runs a code: a command word presented, a transaction's position, a message's
place; a descriptor that ZU-CORE never issues is asked for. -/
def State.placing (c : Code) (s : State) : State :=
  match c with
  | .cmd w => s.presenting w
  | .bus d =>
    match decodeBus d with
    | .error _ => s.requesting d
    | .ok i =>
      match procOf i s with
      | some p => s.atProc p
      | none => s.requesting d
  | .msg t => s.atTag t

end Sys2Proof.Machine
end

