-- ==== Sys2Proof/Machine/ShaBus.lean ====
section
/-! DEFINITION. The meanings of the SHA3 window's bus transactions (41_sha3 R103 to R109): one access, then the move to
the procedure's next position (R102). -/

namespace Sys2Proof.Machine

/-- SHA3_WR_RESET (R103): ends the command SHA3_RESET (R101), and is the first access of every Hash (R102). -/
def execSha3WrReset (s : State) : Host.Outcome State Fault Refusal :=
  let t := (s.winShaReset s.cfg.shaResetValue).setDirty false
  .next (if s.port.cmd = Instr.sha3Reset.word then t.complete .ok [] else t.goProc (.shaWrFifo s.sha.j))

/-- SHA3_WR_FIFO (R104): word j of the padded message, then word j+1 or the start; `sha_j` advances after the last word
too (log 37). -/
def execSha3WrFifo (s : State) : Host.Outcome State Fault Refusal :=
  let j := s.sha.j + 1
  let t := { (s.winShaFifo (wordAt s.sha.msg s.sha.j)).setDirty true with sha := { s.sha with j := j } }
  .next (t.goProc (if j < s.sha.msg.length / 4 then .shaWrFifo j else .shaWrStart))

/-- SHA3_WR_START (R105), then the poll. -/
def execSha3WrStart (s : State) : Host.Outcome State Fault Refusal :=
  .next (s.winShaStart s.cfg.shaStartValue).startShaPoll

/-- SHA3_RD_READY (R106): one read of the poll (R82). -/
def execSha3RdReady (s : State) : Host.Outcome State Fault Refusal :=
  .next (s.tookShaReady.shaPolled s.shaReadyWord)

/-- The position after a digest read that leaves `n` digest bytes, none after the sixteenth read (R102). -/
def digestNext (n : Nat) : Option (Fin 16) := if h : n / 4 < 16 then some ⟨n / 4, h⟩ else none

/-- SHA3_RD_DIGEST (R107): the next digest word, then one more read or the end of the hash. -/
def execSha3RdDigest (s : State) : Host.Outcome State Fault Refusal :=
  let d := s.sha.dig ++ beBytes s.digestWord
  let t := { s.tookDigest with sha := { s.sha with dig := d } }
  .next (match digestNext d.length with
    | some k => t.goProc (.shaRdDigest k)
    | none => t.hashDone)

/-- SHA3_RD_FULL (R108): never issued, its value not in the source; refused when asked for (93 U10). -/
def execSha3RdFull (_ : State) : Host.Outcome State Fault Refusal := .refused .sha3FullNotInSource

/-- SHA3_WR_COUNT (R109): never issued, its effect not in the source; refused when asked for (93 U10). -/
def execSha3WrCount (_ : State) : Host.Outcome State Fault Refusal := .refused .sha3CountNotInSource

end Sys2Proof.Machine
end

