-- ==== Sys2Proof/Machine/Dispatch.lean ====
section
/-! DEFINITION. One arm per instruction. -/

namespace Sys2Proof.Machine

def exec (i : Instr) (s : State) : Host.Outcome State Fault Refusal :=
  match i with
  | .rsaEncrypt key => Sys2Proof.Machine.execRsaEncrypt key s
  | .rsaDecrypt key => Sys2Proof.Machine.execRsaDecrypt key s
  | .sha3Reset => Sys2Proof.Machine.execSha3Reset s
  | .sha3Hash hex => Sys2Proof.Machine.execSha3Hash hex s
  | .protoRun => Sys2Proof.Machine.execProtoRun s
  | .rsaWrData i0 => Sys2Proof.Machine.execRsaWrData i0 s
  | .rsaWrKeysel => Sys2Proof.Machine.execRsaWrKeysel s
  | .rsaWrStart => Sys2Proof.Machine.execRsaWrStart s
  | .rsaRdStatus => Sys2Proof.Machine.execRsaRdStatus s
  | .rsaRdData i0 => Sys2Proof.Machine.execRsaRdData i0 s
  | .rsaWrStop => Sys2Proof.Machine.execRsaWrStop s
  | .sha3WrReset => Sys2Proof.Machine.execSha3WrReset s
  | .sha3WrStart => Sys2Proof.Machine.execSha3WrStart s
  | .sha3RdReady => Sys2Proof.Machine.execSha3RdReady s
  | .sha3RdFull => Sys2Proof.Machine.execSha3RdFull s
  | .sha3RdDigest => Sys2Proof.Machine.execSha3RdDigest s
  | .sha3WrFifo => Sys2Proof.Machine.execSha3WrFifo s
  | .sha3WrCount => Sys2Proof.Machine.execSha3WrCount s
  | .updateCheck => Sys2Proof.Machine.execUpdateCheck s
  | .m1 => Sys2Proof.Machine.execM1 s
  | .m2 => Sys2Proof.Machine.execM2 s
  | .m3 => Sys2Proof.Machine.execM3 s
  | .updateImage => Sys2Proof.Machine.execUpdateImage s
  | .ok => Sys2Proof.Machine.execOk s
  | .imageData => Sys2Proof.Machine.execImageData s
  | .orgChallenge => Sys2Proof.Machine.execOrgChallenge s
  | .deviceChallenge => Sys2Proof.Machine.execDeviceChallenge s
  | .orgResponse => Sys2Proof.Machine.execOrgResponse s

end Sys2Proof.Machine
end

