-- ==== Sys2Proof/Machine/Step.lean ====
section
/-! DEFINITION. One step of the machine (10_state R18): reset if it is asserted (70_reset R165), else a requested bus
access (log 14), else the instruction that `fetch` selects, else a step that no instruction names. -/

namespace Sys2Proof.Machine

/-- A code is decoded and run. -/
def runCode (c : Code) (s : State) : Host.Outcome State Fault Refusal :=
  match decode c with
  | .ok i => exec i s
  | .error e => s.rejectCode c e

/-- One step. -/
def step (s : State) : Host.Outcome State Fault Refusal :=
  if s.env.resetIn then .next s.applyReset
  else match s.env.busRequest with
    | some d => runCode (.bus d) s.dropRequest
    | none =>
      match fetch s with
      | some c => runCode c s
      | none => s.silentStep

/-- `s` with the instruction of an opcode-table row placed so that the very next step runs it (log 15). -/
def State.withFetchWord (s : State) (nbits w : Nat) : State :=
  match codeOfBits nbits w with
  | none => s
  | some c => s.placing c

end Sys2Proof.Machine
end

