-- ==== Sys2Proof/Safety.lean ====
section
/-! DEFINITION. What counts as a safe run, in the terms the statements use: the invariants of the machine, the named
premises of the spec (A_RSA_FN, A_KEYPAIR, A_SHA_FN, the codec's laws), and what ZU-CORE and the agents around
it can become together. -/

namespace Sys2Proof.Safety

open Sys2Proof.Machine

/-! ### Named premises of the spec -/

/-- The two bounds R8 puts on a parameter: `P_POLL_MAX >= 1` and `P_N_ORGS >= 1`. -/
def ParamsValid (p : Params) : Prop := 1 ≤ p.pollMax ∧ 1 ≤ p.nOrgs

/-- The properties of a codec that R70 lets ZU-CORE rely on, (a) for the records it handles and (b) for the lengths it
can frame, with the width of a length prefix. Which lengths those are is the codec's own. -/
structure CodecLawful (canFrame : Nat → Prop) (c : Codec) : Prop where
  updateCheck     : ∀ r, c.parUpdateCheck (c.serUpdateCheck r) = some r
  m1              : ∀ b, c.parM1 (c.serM1 b) = some b
  orgChallenge    : ∀ w, c.parOrgChallenge (c.serOrgChallenge w) = some w
  m2              : ∀ b, c.parM2 (c.serM2 b) = some b
  deviceChallenge : ∀ r, c.parDeviceChallenge (c.serDeviceChallenge r) = some r
  m3              : ∀ b, c.parM3 (c.serM3 b) = some b
  orgResponse     : ∀ r, c.parOrgResponse (c.serOrgResponse r) = some r
  updateImage     : ∀ w, c.parUpdateImage (c.serUpdateImage w) = some w
  pfxLength       : ∀ n, (c.pfx n).length = c.pfxWidth
  framing         : ∀ n, canFrame n → c.bodyLen (c.pfx n) = some n

/-- A_RSA_FN at a start (R84): the core is not suspect, and its answer is a function of the key index and the sixteen
words written. -/
def RsaAnswers (f : Word → Block → Block) (s : State) : Prop :=
  s.book.suspectRsa = false ∧ s.rsaResultBlock = f s.rsaWin.keysel s.rsaWin.din

/-- A_KEYPAIR (R85), for the key indices of a configuration. -/
def KeyPair (f : Word → Block → Block) (x : KeyIndex) : Prop :=
  ∀ w, f (keyIndexOf x .devicePrivate) (f (keyIndexOf x .updatingOrgPublic) w) = w

/-- A_SHA_FN with A_FIFO_OK at a start (R99, R171): the core is not suspect, and its digest is a function of the words
written to the FIFO since the last reset write. -/
def ShaAnswers (f : Bytes → Bytes) (s : State) : Prop :=
  s.book.suspectSha = false ∧ unwords s.shaDigestBlock.toList = f (unwords s.shaWin.fifo)

/-- "EETTEETT" (R100). -/
def shaVector1 : Bytes := [0x45, 0x45, 0x54, 0x54, 0x45, 0x45, 0x54, 0x54]

/-- The sixteen words of the first known digest (R100, V-SRC-1). -/
def shaVector1Words : List Word :=
  [0xDF8B3EE8, 0xE455C8F7, 0xF8E69324, 0x1EB69604, 0x3E8BC200, 0x2FFE1339, 0x1CF807E7, 0x99682769]
  ++ [0x4108FBA2, 0xA2541AA8, 0x49E5A33E, 0x8ADC2EC2, 0x4DE2FE32, 0x5EE027DB, 0xEC902B1A, 0xC1682063]

/-- The sixteen words of the second known digest (R100, V-SRC-2). -/
def shaVector2Words : List Word :=
  [0x961DDDE4, 0x4B61C14B, 0x9EBD0AEE, 0x7C738C8B, 0x4E199E02, 0x055134BF, 0x48745EF9, 0xF08840B8]
  ++ [0xF63848DB, 0x59F0A3AF, 0x3DECD440, 0xD088CBFB, 0xF5FA8486, 0xE7DCA30C, 0xA168F0E3, 0x5A7F7EB0]

/-- The two known values of the SHA3 core (R100), facts that a claim may assume and no definition computes. -/
def ShaKnownValues (f : Bytes → Bytes) : Prop :=
  f (shaPad shaVector1) = unwords shaVector1Words ∧ f (shaPad (shaVector1 ++ shaVector1)) = unwords shaVector2Words

/-! ### Runs and pure composites the statements name -/

/-- `k` steps of the machine, stopping at the first fault or refusal. -/
def steps (k : Nat) (s : State) : Host.Outcome State Fault Refusal := Host.Core.run Sys2Proof.core k s

/-- ZU-CORE is executing a command, reset is not asserted and no bus access is asked for. -/
def Running (s : State) : Prop := s.port.busy = true ∧ s.env.resetIn = false ∧ s.env.busRequest = none

/-- ZU-CORE is idle at rest, the boot requirements hold, reset is not asserted and no bus access is asked for. -/
def IdleReady (s : State) : Prop :=
  s.port.busy = false ∧ s.env.boot.met = true ∧ s.env.resetIn = false ∧ s.env.busRequest = none ∧
  s.seq.sess = .noSession ∧ s.seq.run.active = false ∧ s.seq.proc = .idle ∧ s.rsa.filling = false

/-- The blocks Encrypt builds for a plaintext, with filler `f k` in block k (R76, R78). -/
def paddedBlocks (p : Bytes) (f : Nat → Bytes) : List Bytes :=
  (List.range (segCount p)).map fun k => padBlock (segAt p k) (f k)

/-- What Decrypt makes of opened blocks: their payloads in order, the last one stripped (R87). -/
def openBlocks : List Bytes → Bytes
  | [] => []
  | [o] => strip (payloadOf o)
  | o :: rest => payloadOf o ++ openBlocks rest

/-- A filler is eight non-zero bytes (R77). -/
def FillerValid (f : Bytes) : Prop := f.length = 8 ∧ ∀ b ∈ f, b ≠ 0

/-! ### Positions of the engine procedures -/

/-- A position of RsaBlock (R83). -/
def inRsaBlock : Proc → Bool
  | .rsaWrData _ | .rsaWrKey | .rsaWrStart | .rsaPoll _ | .rsaRdData _ => true
  | .idle | .shaWrReset | .shaWrFifo _ | .shaWrStart | .shaPoll _ | .shaRdDigest _ => false

/-- A position of Hash (R102). -/
def inHash : Proc → Bool
  | .shaWrReset | .shaWrFifo _ | .shaWrStart | .shaPoll _ | .shaRdDigest _ => true
  | .idle | .rsaWrData _ | .rsaWrKey | .rsaWrStart | .rsaPoll _ | .rsaRdData _ => false

/-- No engine procedure is running and no filler is being drawn. -/
def resting (s : State) : Bool := s.seq.proc == .idle && !s.rsa.filling

/-- Encrypt or Decrypt is running: a block is on the bus, or its filler is being drawn. -/
def rsaRunning (s : State) : Bool :=
  (inRsaBlock s.seq.proc && !s.rsa.filling)
    || (s.seq.proc == .idle && s.rsa.filling && s.rsa.op == .encrypt)

/-- Hash is running. -/
def hashRunning (s : State) : Bool := inHash s.seq.proc && !s.rsa.filling

/-- The place within a session state is one its rule has (R118 to R129). -/
def sessionPlaced (s : State) : Bool :=
  match s.seq.sess, s.seq.phase with
  | .awaitM1, .engine => rsaRunning s
  | .awaitM1, .start | .awaitM1, .opened | .awaitM1, .nonce | .awaitM1, .sealed => resting s
  | .awaitM3, .engine => rsaRunning s && s.rsa.op == .decrypt
  | .awaitM3, .start | .awaitM3, .opened => resting s
  | .awaitImageSize, .start | .awaitImageSize, .ack => resting s
  | .receivingImage, .start | .receivingImage, .chunk => resting s
  | .init, .start | .checkSent, .start | .challengeSent, .start | .authenticated, .start | .imageComplete, .start
  | .sessionDone, .start | .failed, .start => resting s
  | _, _ => false

/-- The place outside sessions is one a command or a validation step has (R86, R101, R102, R134 to R139). -/
def runPlaced (s : State) : Bool :=
  match s.seq.run with
  | .runIdle | .runReady | .runFailed => rsaRunning s || hashRunning s
  | .valDecrypt => resting s || (inRsaBlock s.seq.proc && !s.rsa.filling && s.rsa.op == .decrypt)
  | .valParse | .valCompare => resting s
  | .valHash => resting s || hashRunning s
  | .runGU | .runGC => false

/-- The sequencing tuple is one for which the spec gives a step (R18 to R21): idle means no position at all, a session
runs only in RunGU or RunGC with PROTO_RUN as the command, and every position is one of its rule's. -/
def Placed (s : State) : Prop :=
  s.env.busRequest = none ∧
  (s.seq.run.active = true → s.port.cmd = Instr.protoRun.word) ∧
  (s.port.busy = false →
    s.seq.sess = .noSession ∧ s.seq.run.active = false ∧ resting s = true) ∧
  (s.port.busy = true →
    if s.seq.sess.active then (s.seq.run = .runGU ∨ s.seq.run = .runGC) ∧ sessionPlaced s = true
    else runPlaced s = true)

/-! ### Invariants of the engines -/

/-- Key discipline (R86, R87, R158): the private slot only decrypts and a public slot only encrypts. -/
def KeyFits (s : State) : Prop :=
  s.env.busRequest = none ∧
  ((inRsaBlock s.seq.proc = true ∨ s.rsa.filling = true) →
    (s.rsa.op = .encrypt ∧ s.rsa.key ≠ .devicePrivate) ∨ (s.rsa.op = .decrypt ∧ s.rsa.key = .devicePrivate))

/-- The poll bound (R82): the position RsaPoll(a) or ShaPoll(a) is the a-th read, with a at most `P_POLL_MAX`, which
R8 bounds below by 1. -/
def PollBounded (s : State) : Prop :=
  s.env.busRequest = none ∧
  (∀ a, s.seq.proc = .rsaPoll a → a = s.rsa.pollcnt + 1 ∧ a ≤ max 1 s.cfg.pollMax) ∧
  (∀ a, s.seq.proc = .shaPoll a → a = s.sha.pollcnt + 1 ∧ a ≤ max 1 s.cfg.pollMax)

/-- The FIFO holds the first `n` words of the message being streamed, and the message is whole blocks of 64 bytes. -/
def Streamed (n : Nat) (s : State) : Prop :=
  0 < s.sha.msg.length ∧ s.sha.msg.length % 64 = 0 ∧ s.shaWin.fifo = (words s.sha.msg).take n

/-- Hash keeps its order (R102, R104, R168): at FIFO word j exactly the first j words of the padded message have been
written since the reset write, and none before word 0; from the start on, all of them; at digest read k, 4k bytes
have been read, and the digest pointer is at word k. -/
def HashOrdered (s : State) : Prop :=
  s.env.busRequest = none ∧
  (s.seq.proc = .shaWrReset → s.port.cmd = Instr.sha3Reset.word ∨
    (s.sha.j = 0 ∧ s.sha.dig = [] ∧ 0 < s.sha.msg.length ∧ s.sha.msg.length % 64 = 0)) ∧
  (∀ j, s.seq.proc = .shaWrFifo j → s.sha.j = j ∧ j < s.sha.msg.length / 4 ∧ s.sha.dig = [] ∧ s.shaWin.ptr = 0 ∧
    Streamed j s ∧ (j = 0 → s.book.shaDirty = false)) ∧
  (s.seq.proc = .shaWrStart → s.sha.dig = [] ∧ s.shaWin.ptr = 0 ∧ Streamed (s.sha.msg.length / 4) s) ∧
  (∀ a, s.seq.proc = .shaPoll a → s.sha.dig = [] ∧ s.shaWin.ptr = 0 ∧ Streamed (s.sha.msg.length / 4) s) ∧
  (∀ k, s.seq.proc = .shaRdDigest k → s.sha.dig.length = 4 * k.val ∧ s.shaWin.ptr = k.val)

/-! ### Invariants of the staging store -/

/-- Every offset below `n` has been written. -/
def Covered (s : State) (n : Nat) : Prop := ∀ a, a < n → (s.stageByte a).isSome

/-- How far the image of the running session has come (R126, R127): nothing before ReceivingImage; the size within the
store once it is accepted; never more than the size; all of it from ImageComplete on. -/
def ImageProgress (s : State) : Prop :=
  match s.seq.sess with
  | .init | .checkSent | .awaitM1 | .challengeSent | .awaitM3 | .authenticated => s.ses.imgRcvd = 0
  | .awaitImageSize =>
    s.ses.imgRcvd = 0 ∧ (s.seq.phase = .ack → s.ses.imgSize.toNat ≤ s.cfg.stageCap)
  | .receivingImage =>
    s.ses.imgSize.toNat ≤ s.cfg.stageCap ∧ s.ses.imgRcvd ≤ s.ses.imgSize.toNat ∧
    (s.seq.phase = .chunk → s.ses.imgRcvd + s.ses.held.length ≤ s.ses.imgSize.toNat)
  | .imageComplete => s.ses.imgRcvd = s.ses.imgSize.toNat
  | .sessionDone => s.ses.role = .updating → s.ses.imgRcvd = s.ses.imgSize.toNat
  | .failed | .noSession => True

/-- The staging store is in canonical form, and holds every byte that the run counts on: the received bytes of the
session, and the `img_len` bytes validation will read (R49, R127, R134). -/
def StageSound (s : State) : Prop :=
  Memory.wf s.stage = true ∧ Covered s s.run.imgLen.toNat ∧ (s.seq.sess.active = true → Covered s s.ses.imgRcvd) ∧
  ImageProgress s

/-! ### The quorum (R140) -/

/-- The log of `n` successful sessions, organizations 0 to n-1 in order (R27, R130). -/
def successLog (n : Nat) : List (Nat × SessOutcome) := (List.range n).map fun i => (i, SessOutcome.success)

/-- Every organization's session succeeded, and every confirming organization's attestation is recorded (R130, R140). -/
def AllSucceeded (s : State) : Prop :=
  s.run.sessLog = successLog (s.run.orgIdx + 1) ∧ s.run.orgIdx + 1 = max 1 s.cfg.nOrgs ∧
  s.run.attests.length = s.run.orgIdx

/-- What `ready_to_install = 1` stands for (R139, R140): every session succeeded, the digest is the header's hash and
every attestation matches it, and the outputs are that header and its payload. -/
def Agreement (s : State) : Prop :=
  AllSucceeded s ∧ imgHdrLen ≤ s.run.decImg.length ∧ s.run.hdr = some (parseHeader s.run.decImg) ∧
  s.run.digest = (parseHeader s.run.decImg).hash ∧
  (∀ a ∈ s.run.attests, attestEq s.cfg.attestEnc s.run.digest a = true) ∧
  s.out.installHdr = parseHeader s.run.decImg ∧ s.out.installPayload = imagePayload s.run.decImg

/-- The session states after the nonce check has passed (R124). -/
def pastNonceCheck : SessState → Bool
  | .authenticated | .awaitImageSize | .receivingImage | .imageComplete | .sessionDone => true
  | .init | .checkSent | .awaitM1 | .challengeSent | .awaitM3 | .failed | .noSession => false

/-- The session's role and index fit the run state, and past the nonce check `s_ok` is 1 (R117, R124, R132). -/
def SessionFits (s : State) : Prop :=
  (pastNonceCheck s.seq.sess = true → s.ses.ok = true) ∧
  (s.seq.sess.active = true → s.seq.run = .runGU → s.ses.role = .updating ∧ s.run.orgIdx = 0) ∧
  (s.seq.sess.active = true → s.seq.run = .runGC → s.ses.role = .confirming ∧ 0 < s.run.orgIdx ∧
    s.run.orgIdx < s.cfg.nOrgs)

/-- The log and the attestations follow the sessions (R130 to R133): while no GC error is kept, every session before
the running one succeeded. -/
def LogFollows (s : State) : Prop :=
  match s.seq.run with
  | .runGU =>
    s.run.firstGcErr = none ∧ s.run.attests = [] ∧ (s.seq.sess ≠ .failed → s.run.sessLog = [])
  | .runGC =>
    s.seq.sess ≠ .failed → s.run.firstGcErr = none →
      s.run.sessLog = successLog s.run.orgIdx ∧ s.run.attests.length + 1 = s.run.orgIdx
  | .valDecrypt | .valParse => AllSucceeded s
  | .valHash | .valCompare =>
    AllSucceeded s ∧ imgHdrLen ≤ s.run.decImg.length ∧ s.run.hdr = some (parseHeader s.run.decImg)
  | .runIdle | .runReady | .runFailed => True

/-- The quorum invariant: the run's records follow its sessions, and `ready_to_install = 1` is a completed run with
full agreement. -/
def QuorumSound (s : State) : Prop :=
  SessionFits s ∧ LogFollows s ∧
  (s.out.ready = true → s.port.busy = false ∧ s.seq.run = .runReady ∧ Agreement s)

/-! ### What a state can become -/

/-- `Evolves s t`: ZU-CORE and the agents around it lead from `s` to `t`, by steps of ZU-CORE and by any changes of the
environment (commands presented, inputs driven, answers chosen), none of which asks for a bus access of its own. -/
inductive Evolves : State → State → Prop
  | refl (s : State) : Evolves s s
  | step {s t u : State} : Evolves s t → Machine.step t = .next u → Evolves s u
  | environment {s t : State} (e : Env) : Evolves s t → e.busRequest = none → Evolves s { t with env := e }

end Sys2Proof.Safety
end

