-- ==== Sys2Proof/Certificates/Slice0/Obligations.lean ====
section
/-! DEFINITION. The statements for the provers, each a `Prop`. The comment of each names the rules or sections of spec/
it rests on and, where it rests on a choice of the model, the log entry. A statement that writes `{ s with … }` says
with it that every other field of the state is unchanged. -/

open Sys2Proof Sys2Proof.Machine Sys2Proof.Safety

/-! ### Encoding -/

/-- A code decodes to an instruction exactly when it is that instruction's encoding (30_encoding sections 2 to 4). -/
def Obligations.CodesDecodeAndEncodeAgree : Prop :=
  ∀ (c : Code) (i : Instr), decode c = .ok i ↔ encode i = c

/-- The codes that decode are the legal command words (R65, R73), the thirteen descriptor patterns (R67) and the ten
tags (R69). -/
def Obligations.LegalCodesAreTheTables : Prop :=
  ∀ c : Code, (∃ i, decode c = .ok i) ↔ c.wellFormed = true

/-- Words written out in 95_test_vectors section 3 and 30_encoding sections 2 to 4. -/
def Obligations.CodesFromTheTables : Prop :=
  decode (.cmd 0x00000101) = .ok (.rsaEncrypt .updatingOrgPublic) ∧
  decode (.cmd 0x00000002) = .ok (.rsaDecrypt .devicePrivate) ∧
  decode (.cmd 0x00000404) = .ok (.sha3Hash true) ∧
  decode (.cmd 0x00000302) = .error .badKey ∧
  decode (.cmd 0x80000004) = .error .reservedBits ∧
  decode (.bus 0x114) = .ok (.rsaWrData 5) ∧
  decode (.bus 0x040) = .ok .rsaRdStatus ∧
  decode (.bus 0x22C) = .ok .sha3RdDigest ∧
  decode (.bus 0x32C) = .error .reservedOffset ∧
  decode (.msg 0x13) = .ok .m3 ∧
  decode (.msg 0x22) = .ok .deviceChallenge

/-- A table word that decodes to an instruction is what the very next step runs, wherever it is placed (log 15). -/
def Obligations.PlacedInstructionRuns : Prop :=
  ∀ (s : State) (nbits w : Nat) (c : Code) (i : Instr), codeOfBits nbits w = some c → decode c = .ok i →
    step (s.withFetchWord nbits w) = exec i (s.withFetchWord nbits w).dropRequest

/-! ### The step -/

/-- A step runs the decoded instruction, and nothing is added around it; what is fetched is the presented word when
idle, the transaction at `proc` in an engine procedure, the message of the session's place otherwise. -/
def Obligations.StepRunsFetchedInstruction : Prop :=
  (∀ (s : State) (c : Code) (i : Instr), s.env.resetIn = false → s.env.busRequest = none → fetch s = some c →
    decode c = .ok i → step s = exec i s) ∧
  (∀ (s : State) (l : HostLine) (rest : List HostLine), s.port.busy = false → s.env.program = l :: rest →
    fetch s = some (.cmd l.word)) ∧
  (∀ (s : State) (i : Instr), s.port.busy = true → procInstr s.seq.proc = some i → fetch s = some (encode i)) ∧
  (∀ (s : State) (t : BitVec 8), s.port.busy = true → s.seq.proc = .idle → s.rsa.filling = false →
    sessionTag s.seq.sess s.seq.phase = some t → fetch s = some (.msg t))

/-- An illegal command word is accepted and ends at once with ILLEGAL: no window, transport or staging access, and
nothing changes but the result registers, the error record and `ready_to_install`, which every acceptance clears. That
`cmd` and `arg_data` keep what they held is the model's reading where two rules differ, log 16. -/
def Obligations.IllegalCommandWordEndsAtOnce : Prop :=
  ∀ (s : State) (l : HostLine) (rest : List HostLine), IdleReady s → s.env.program = l :: rest →
    (Code.cmd l.word).wellFormed = false →
    step s = .next
      { s with
        port := { s.port with resStatus := .illegal, resData := [] }
        err := ErrRec.clear
        out := { s.out with ready := false }
        env := { s.env with program := rest } }

/-- The command port: nothing happens between commands; while busy, what the host presents changes no step and is left
as it is, and exec of a command has no effect; a command, and an illegal word too, is refused with a boot requirement
unmet (10_state section 2, 60_exceptions section 6, 70_reset section 2; log 18). -/
def Obligations.CommandPortGates : Prop :=
  (∀ s : State, s.env.resetIn = false → s.env.busRequest = none → s.port.busy = false → s.env.program = [] →
    step s = .next s) ∧
  (∀ (s : State) (w : BitVec 32) (i : Instr), decode (.cmd w) = .ok i → s.port.busy = true → exec i s = .next s) ∧
  (∀ (s : State) (w : BitVec 32) (i : Instr), decode (.cmd w) = .ok i → s.port.busy = false → s.env.boot.met = false →
    exec i s = .refused .bootUnmet) ∧
  (∀ (s : State) (l : HostLine) (rest : List HostLine), s.env.resetIn = false → s.env.busRequest = none →
    s.port.busy = false → s.env.program = l :: rest → (Code.cmd l.word).wellFormed = false → s.env.boot.met = false →
    step s = .refused .bootUnmet) ∧
  (∀ (s t : State) (p : List HostLine), s.port.busy = true → step s = .next t →
    t.env.program = s.env.program ∧
    step { s with env := { s.env with program := p } } = .next { t with env := { t.env with program := p } }) ∧
  (∀ (s : State) (p : List HostLine), s.port.busy = true →
    (∀ f, step s = .fault f → step { s with env := { s.env with program := p } } = .fault f) ∧
    (∀ r, step s = .refused r → step { s with env := { s.env with program := p } } = .refused r))

/-- Reset, at any step: every register to which 10_state gives a reset value takes it; nothing is sent and nothing
staged, and the windows hold any value afterwards (70_reset section 1; the free words, log 4; that the staging store
and the transport stay, where R166 leaves them to the platform, is the model's choice, log 35). And `State.reset` is
such a state, with the defaults of 00_scope section 5; that its `cancel` input is 0 is the model's choice, log 12, as
70_reset section 2 asks before the first command. -/
def Obligations.ResetTakesEveryRegister : Prop :=
  (∀ s : State, s.env.resetIn = true → ∃ t, step s = .next t ∧
      t.port.busy = false ∧ t.port.resStatus = .none ∧ t.port.resData = [] ∧ t.port.argData = [] ∧
      t.seq.run = .runIdle ∧ t.seq.sess = .noSession ∧ t.seq.proc = .idle ∧
      t.rsa.nblk = 0 ∧ t.rsa.k = 0 ∧ t.rsa.acc = [] ∧ t.rsa.pollcnt = 0 ∧
      t.sha.msg = [] ∧ t.sha.j = 0 ∧ t.sha.dig = [] ∧ t.sha.hex = false ∧ t.sha.pollcnt = 0 ∧
      t.book = ⟨true, false, false⟩ ∧
      t.ses.ok = false ∧ t.ses.attest = [] ∧ t.ses.imgSize = 0 ∧ t.ses.imgRcvd = 0 ∧
      t.run.checkSent = false ∧ t.run.orgIdx = 0 ∧ t.run.attests = [] ∧ t.run.sessLog = [] ∧ t.run.imgLen = 0 ∧
      t.run.decImg = [] ∧ t.run.hdr = none ∧
      t.err = ErrRec.clear ∧ t.out.ready = false ∧
      t.cfg = s.cfg ∧ t.rsaWin = freeRsaWindow (s.env.draws + 1) ∧ t.shaWin = freeShaWindow (s.env.draws + 1) ∧
      t.stage = s.stage ∧ t.env = { s.env with draws := s.env.draws + 1 }) ∧
  State.reset.port.busy = false ∧ State.reset.port.resStatus = .none ∧ State.reset.port.argData = [] ∧
  State.reset.port.resData = [] ∧ State.reset.seq.run = .runIdle ∧ State.reset.seq.sess = .noSession ∧
  State.reset.seq.proc = .idle ∧ State.reset.book = ⟨true, false, false⟩ ∧ State.reset.rsa.nblk = 0 ∧
  State.reset.rsa.k = 0 ∧ State.reset.rsa.acc = [] ∧ State.reset.rsa.pollcnt = 0 ∧ State.reset.sha.msg = [] ∧
  State.reset.sha.j = 0 ∧ State.reset.sha.dig = [] ∧ State.reset.sha.hex = false ∧ State.reset.sha.pollcnt = 0 ∧
  State.reset.ses.ok = false ∧ State.reset.ses.attest = [] ∧ State.reset.ses.imgSize = 0 ∧
  State.reset.ses.imgRcvd = 0 ∧ State.reset.run.checkSent = false ∧ State.reset.run.orgIdx = 0 ∧
  State.reset.run.attests = [] ∧ State.reset.run.sessLog = [] ∧ State.reset.run.imgLen = 0 ∧
  State.reset.run.decImg = [] ∧ State.reset.run.hdr = none ∧
  State.reset.err = ErrRec.clear ∧ State.reset.out.ready = false ∧ State.reset.env.cancel = false ∧
  State.reset.cfg.keyIndex = ⟨0, 1, 2⟩ ∧ State.reset.cfg.shaResetValue = 1 ∧ State.reset.cfg.shaStartValue = 1 ∧
  State.reset.cfg.attestEnc = .raw64 ∧ State.reset.cfg.confirmFail = .abort ∧ State.reset.cfg.hdrCheck = .strict

/-! ### Commands -/

/-- RSA_ENCRYPT with a public slot: a plaintext of at least one byte begins its first block's filler draws; the empty
one ends at once with OK, an empty result and no bus access; with DevicePrivate it ends with KeySlotMisuse before any
bus access (40_rsa section 4; acceptance, 60_exceptions section 2). That the last two end within the acceptance step
is the model's reading, log 17, and so is the step in which the engine's registers are set, log 36. The filler of a
block, in a command or a session: each draw is a non-zero byte, any one, and eight draws load the block of the segment
under those eight bytes, with no bus access (40_rsa section 1; one draw a step, and a drawn 0 taken as 1, log 20). -/
def Obligations.RsaEncryptStarts : Prop :=
  (∀ (s : State) (key : KeySlot), s.port.busy = false → s.env.boot.met = true → key ≠ .devicePrivate →
    s.presentedData ≠ [] →
    exec (.rsaEncrypt key) s = .next
      { s with
        port := { busy := true, cmd := (Instr.rsaEncrypt key).word, argData := s.presentedData, resStatus := .none
                  resData := [] }
        seq := { s.seq with proc := .idle, phase := .engine }
        rsa := { s.rsa with
          key := key, nblk := (s.presentedData.length + 52) / 53, k := 0, acc := [], op := .encrypt
          src := s.presentedData, filler := [], filling := true }
        err := ErrRec.clear
        out := { s.out with ready := false }
        env := { s.env with program := s.env.program.tail } }) ∧
  (∀ (s : State) (key : KeySlot), IdleReady s → key ≠ .devicePrivate → s.presentedData = [] →
    exec (.rsaEncrypt key) s = .next
      { s with
        port := { busy := false, cmd := (Instr.rsaEncrypt key).word, argData := [], resStatus := .ok, resData := [] }
        seq := { s.seq with phase := .start }
        rsa := { s.rsa with
          key := key, nblk := 0, k := 0, acc := [], op := .encrypt, src := [], filler := [] }
        err := ErrRec.clear
        out := { s.out with ready := false }
        env := { s.env with program := s.env.program.tail } }) ∧
  (∀ s : State, IdleReady s →
    exec (.rsaEncrypt .devicePrivate) s = .next
      { s with
        port := { busy := false, cmd := 0x00000001, argData := s.presentedData, resStatus := .fail, resData := [] }
        seq := { s.seq with phase := .start }
        err := ⟨some .keySlotMisuse, none, some (.run s.seq.run)⟩
        out := { s.out with ready := false }
        env := { s.env with program := s.env.program.tail } }) ∧
  (∀ s : State, Running s → s.seq.proc = .idle → s.rsa.filling = true → s.rsa.filler.length < 7 →
    ∃ b, b ≠ 0 ∧ (∀ c rest, s.env.filler = c :: rest → c ≠ 0 → b = c) ∧
      step s = .next
        { s with
          rsa := { s.rsa with filler := s.rsa.filler ++ [b] }
          env := { s.env with filler := s.env.filler.tail, draws := s.env.draws + 1 } }) ∧
  (∀ s : State, Running s → s.seq.proc = .idle → s.rsa.filling = true → s.rsa.filler = [] →
    ∃ f, FillerValid f ∧ (∀ g rest, FillerValid g → s.env.filler = g ++ rest → f = g) ∧
      steps 8 s = .next
        { s with
          rsa := { s.rsa with
            inp := blockOfBytes (padBlock (segAt s.rsa.src s.rsa.k) f), filler := f, filling := false }
          seq := { s.seq with proc := .rsaWrData 0 }
          env := { s.env with filler := s.env.filler.drop 8, draws := s.env.draws + 8 } })

/-- RSA_DECRYPT with DevicePrivate: a ciphertext of one or more whole blocks loads its first block; any other length
ends with BadLength, and a public slot with KeySlotMisuse whatever the length, before any bus access (40_rsa section
4, 60_exceptions section 3; log 17; the step in which the engine's registers are set, log 36). -/
def Obligations.RsaDecryptStarts : Prop :=
  (∀ s : State, s.port.busy = false → s.env.boot.met = true → s.presentedData.length ≠ 0 →
    s.presentedData.length % 64 = 0 →
    exec (.rsaDecrypt .devicePrivate) s = .next
      { s with
        port := { busy := true, cmd := (Instr.rsaDecrypt .devicePrivate).word, argData := s.presentedData
                  resStatus := .none, resData := [] }
        seq := { s.seq with proc := .rsaWrData 0, phase := .engine }
        rsa := { s.rsa with
          key := .devicePrivate, nblk := s.presentedData.length / 64, k := 0, acc := [], op := .decrypt
          src := s.presentedData, inp := blockOfBytes (s.presentedData.take 64), filler := [], filling := false }
        err := ErrRec.clear
        out := { s.out with ready := false }
        env := { s.env with program := s.env.program.tail } }) ∧
  (∀ s : State, IdleReady s → (s.presentedData.length = 0 ∨ s.presentedData.length % 64 ≠ 0) →
    exec (.rsaDecrypt .devicePrivate) s = .next
      { s with
        port := { busy := false, cmd := (Instr.rsaDecrypt .devicePrivate).word, argData := s.presentedData
                  resStatus := .fail, resData := [] }
        seq := { s.seq with phase := .start }
        err := ⟨some .badLength, none, some (.run s.seq.run)⟩
        out := { s.out with ready := false }
        env := { s.env with program := s.env.program.tail } }) ∧
  (∀ (s : State) (key : KeySlot), IdleReady s → key ≠ .devicePrivate →
    exec (.rsaDecrypt key) s = .next
      { s with
        port := { busy := false, cmd := (Instr.rsaDecrypt key).word, argData := s.presentedData, resStatus := .fail
                  resData := [] }
        seq := { s.seq with phase := .start }
        err := ⟨some .keySlotMisuse, none, some (.run s.seq.run)⟩
        out := { s.out with ready := false }
        env := { s.env with program := s.env.program.tail } })

/-- SHA3_RESET: its acceptance, and the one bus write that ends it, which leaves any words behind SHA3.DIGEST (R101;
the words, log 7). -/
def Obligations.Sha3ResetCompletes : Prop :=
  (∀ s : State, s.port.busy = false → s.env.boot.met = true →
    exec .sha3Reset s = .next
      { s with
        port := { busy := true, cmd := 0x00000003, argData := s.presentedData, resStatus := .none, resData := [] }
        seq := { s.seq with proc := .shaWrReset, phase := .engine }
        err := ErrRec.clear
        out := { s.out with ready := false }
        env := { s.env with program := s.env.program.tail } }) ∧
  (∀ (s : State) (l : HostLine) (rest : List HostLine), IdleReady s → s.env.program = l :: rest →
    l.word = 0x00000003 →
    steps 2 s = .next
      { s with
        port := { busy := false, cmd := 0x00000003, argData := l.data, resStatus := .ok, resData := [] }
        seq := { s.seq with phase := .start }
        book := { s.book with shaDirty := false }
        err := ErrRec.clear
        out := { s.out with ready := false }
        shaWin := { s.shaWin with
          resetReg := s.cfg.shaResetValue, fifo := [], ptr := 0, digest := Config.freeDigestCleared s.env.draws }
        env := { s.env with program := rest, draws := s.env.draws + 1 } })

/-- SHA3_HASH: the padded message stands in the engine and the reset write is next (41_sha3 section 2). PROTO_RUN: the
run's registers are initialised and the updating organization's session starts (42_protocol sections 2 and 3). The
values of `s_ng` and `s_nd` at a session's start are the model's, log 29; so is the step in which the hash's registers
are set, log 36. -/
def Obligations.HashAndRunStart : Prop :=
  (∀ (s : State) (hex : Bool), s.port.busy = false → s.env.boot.met = true →
    exec (.sha3Hash hex) s = .next
      { s with
        port := { busy := true, cmd := (Instr.sha3Hash hex).word, argData := s.presentedData, resStatus := .none
                  resData := [] }
        seq := { s.seq with proc := .shaWrReset, phase := .engine }
        sha := { s.sha with
          msg := s.presentedData ++ List.replicate (64 - s.presentedData.length % 64) 0xFF, j := 0, dig := []
          hex := hex }
        err := ErrRec.clear
        out := { s.out with ready := false }
        env := { s.env with program := s.env.program.tail } }) ∧
  (∀ s : State, s.port.busy = false → s.env.boot.met = true →
    exec .protoRun s = .next
      { s with
        port := { busy := true, cmd := 0x00000005, argData := s.presentedData, resStatus := .none, resData := [] }
        seq := { run := .runGU, sess := .init, proc := .idle, phase := .start }
        ses := { role := .updating, ng := 0, nd := 0, ok := false, attest := [], imgSize := 0, imgRcvd := 0
                 rx := .lenField, rxBuf := [], held := [] }
        run := { s.run with
          checkSent := false, orgIdx := 0, attests := [], sessLog := [], imgLen := 0, decImg := [], hdr := none
          firstGcErr := none }
        err := ErrRec.clear
        out := { s.out with ready := false }
        env := { s.env with program := s.env.program.tail } })

/-! ### RSA bus transactions and blocks -/

/-- RSA_WR_DATA loads input word i of the block and goes to the next word, after word 15 to the key select;
RSA_RD_DATA takes output word i below 15 and goes to the next one (40_rsa sections 3 and 5). -/
def Obligations.RsaDataWordsMove : Prop :=
  (∀ (s : State) (i : Fin 16),
    exec (.rsaWrData i) s = .next
      { s with
        rsaWin := { s.rsaWin with din := s.rsaWin.din.set i.val s.rsa.inp[i.val] }
        seq := { s.seq with
          proc := if h : i.val + 1 < 16 then .rsaWrData ⟨i.val + 1, h⟩ else .rsaWrKey } }) ∧
  (∀ (s : State) (i : Fin 16) (h : i.val + 1 < 16),
    exec (.rsaRdData i) s = .next
      { s with
        rsa := { s.rsa with out := s.rsa.out.set i.val s.rsaWin.dout[i.val] }
        seq := { s.seq with proc := .rsaRdData ⟨i.val + 1, h⟩ } })

/-- RSA 0x40 is two registers: RSA_WR_KEYSEL writes the slot's index to the key select and nothing else, and the start
is next; RSA_RD_STATUS returns the completion status, the core's next answer, and the poll ends exactly when that word
is the done value, the same whatever the key select holds; the read leaves every register of the window as it is
(R172). -/
def Obligations.KeyselAndStatusAreTwoRegisters : Prop :=
  (∀ s : State,
    exec .rsaWrKeysel s = .next
      { s with
        rsaWin := { s.rsaWin with
          keysel := match s.rsa.key with
            | .devicePrivate => s.cfg.keyIndex.devicePrivate
            | .updatingOrgPublic => s.cfg.keyIndex.updatingOrgPublic
            | .confirmingOrgPublic => s.cfg.keyIndex.confirmingOrgPublic }
        seq := { s.seq with proc := .rsaWrStart } }) ∧
  (∀ (s : State) (w : Word) (ws : List Word), s.env.rsaStatus = w :: ws →
    s.rsaStatusWord = w ∧ ∃ t, exec .rsaRdStatus s = .next t ∧ t.env.rsaStatus = ws ∧
      (t.seq.proc = .rsaRdData 0 ↔ w = s.cfg.rsaDone)) ∧
  (∀ (s : State) (v : Word),
    State.rsaStatusWord { s with rsaWin := { s.rsaWin with keysel := v } } = s.rsaStatusWord ∧
    ∃ t, exec .rsaRdStatus s = .next t ∧ (t.seq.proc = .rsaRdData 0 ↔ s.rsaStatusWord = s.cfg.rsaDone) ∧
      exec .rsaRdStatus { s with rsaWin := { s.rsaWin with keysel := v } } =
        .next { t with rsaWin := { t.rsaWin with keysel := v } } ∧
      t.rsaWin = s.rsaWin)

/-- The two start writes: RSA.START takes 1, SHA3.START takes `P_SHA3_START_VALUE`; the poll of that core begins with
its count 0. The core's answer is any sixteen words (logs 5 to 7). -/
def Obligations.StartWritesStartTheCores : Prop :=
  (∀ s : State,
    exec .rsaWrStart s = .next
      { s with
        rsaWin := { s.rsaWin with start := 1, dout := s.rsaResultBlock }
        rsa := { s.rsa with pollcnt := 0 }
        seq := { s.seq with proc := .rsaPoll 1 }
        env := { s.env with rsaResult := s.env.rsaResult.tail, draws := s.env.draws + 1 } }) ∧
  (∀ s : State,
    exec .sha3WrStart s = .next
      { s with
        shaWin := { s.shaWin with start := s.cfg.shaStartValue, digest := s.shaDigestBlock }
        sha := { s.sha with pollcnt := 0 }
        seq := { s.seq with proc := .shaPoll 1 }
        env := { s.env with shaDigest := s.env.shaDigest.tail, draws := s.env.draws + 1 } })

/-- A status read: the done value goes on to the data reads, any other value to the next read while the bound allows
one (40_rsa section 2). -/
def Obligations.PollReadsStatus : Prop :=
  (∀ s : State, s.rsaStatusWord = s.cfg.rsaDone ∨ s.rsa.pollcnt + 1 < s.cfg.pollMax →
    exec .rsaRdStatus s = .next
      { s with
        rsa := { s.rsa with pollcnt := s.rsa.pollcnt + 1 }
        seq := { s.seq with
          proc := if s.rsaStatusWord = s.cfg.rsaDone then .rsaRdData 0 else .rsaPoll (s.rsa.pollcnt + 2) }
        env := { s.env with rsaStatus := s.env.rsaStatus.tail, draws := s.env.draws + 1 } }) ∧
  (∀ s : State, s.shaReadyWord = s.cfg.shaReady ∨ s.sha.pollcnt + 1 < s.cfg.pollMax →
    exec .sha3RdReady s = .next
      { s with
        sha := { s.sha with pollcnt := s.sha.pollcnt + 1 }
        seq := { s.seq with
          proc := if s.shaReadyWord = s.cfg.shaReady then .shaRdDigest 0 else .shaPoll (s.sha.pollcnt + 2) }
        env := { s.env with shaReady := s.env.shaReady.tail, draws := s.env.draws + 1 } })

/-- The last read the bound allows, without the done or ready value: the core becomes suspect and HardwareTimeout is
raised; no window register is written (40_rsa section 2, 70_reset section 3). -/
def Obligations.PollTimeoutRaises : Prop :=
  (∀ s : State, s.rsaStatusWord ≠ s.cfg.rsaDone → s.cfg.pollMax ≤ s.rsa.pollcnt + 1 →
    ∃ t, exec .rsaRdStatus s = .next t ∧ t.err = ⟨some (.hardwareTimeout .rsa), s.errOrg, some s.stepPos⟩ ∧
      t.book = { s.book with suspectRsa := true } ∧ t.seq.proc = .idle ∧
      t.seq.sess = (if s.seq.sess.active then .failed else .noSession) ∧
      (s.seq.sess.active = false → t.port = { s.port with busy := false, resStatus := .fail, resData := [] }) ∧
      t.rsaWin = s.rsaWin ∧ t.shaWin = s.shaWin ∧ t.stage = s.stage ∧ t.env.sent = s.env.sent) ∧
  (∀ s : State, s.shaReadyWord ≠ s.cfg.shaReady → s.cfg.pollMax ≤ s.sha.pollcnt + 1 →
    ∃ t, exec .sha3RdReady s = .next t ∧ t.err = ⟨some (.hardwareTimeout .sha3), s.errOrg, some s.stepPos⟩ ∧
      t.book = { s.book with suspectSha := true } ∧ t.seq.proc = .idle ∧
      t.seq.sess = (if s.seq.sess.active then .failed else .noSession) ∧
      (s.seq.sess.active = false → t.port = { s.port with busy := false, resStatus := .fail, resData := [] }) ∧
      t.rsaWin = s.rsaWin ∧ t.shaWin = s.shaWin ∧ t.stage = s.stage ∧ t.env.sent = s.env.sent)

/-- The sixteenth read ends a block of Decrypt: under Strict a bad header raises InvalidPadding with the block's index
(what the raise does, RaiseIsPrecise says); else the 53-byte payload is appended, stripped on the last block only, and
the next block is loaded, or the whole plaintext is the command's result, a session's held bytes or the decrypted
image (40_rsa sections 1 and 4, 42_protocol sections 2 and 4; what `hdrOk` is, PaddedBlockLayout says; `rsa_k` after
the last block, log 37). -/
def Obligations.DecryptBlockEnds : Prop :=
  ∀ (s : State) (o pay : Bytes), s.rsa.op = .decrypt →
    o = unwords (s.rsa.out.set 15 s.rsaWin.dout[15]).toList → pay = (o.drop 11).take 53 →
    (s.cfg.hdrCheck = .strict → hdrOk o = false →
      exec (.rsaRdData 15) s = .next
        (State.raise (.invalidPadding s.rsa.k)
          { s with rsa := { s.rsa with out := s.rsa.out.set 15 s.rsaWin.dout[15] } })) ∧
    ((s.cfg.hdrCheck = .off ∨ hdrOk o = true) → s.rsa.k + 1 < s.rsa.nblk →
      exec (.rsaRdData 15) s = .next
        { s with
          rsa := { s.rsa with
            out := s.rsa.out.set 15 s.rsaWin.dout[15], acc := s.rsa.acc ++ pay, k := s.rsa.k + 1, filling := false
            inp := blockOfBytes ((s.rsa.src.drop (64 * (s.rsa.k + 1))).take 64) }
          seq := { s.seq with proc := .rsaWrData 0 } }) ∧
    ((s.cfg.hdrCheck = .off ∨ hdrOk o = true) → s.rsa.nblk ≤ s.rsa.k + 1 → s.seq.sess.active = false →
      s.seq.run.active = false →
      exec (.rsaRdData 15) s = .next
        { s with
          port := { s.port with busy := false, resStatus := .ok, resData := s.rsa.acc ++ strip pay }
          rsa := { s.rsa with
            out := s.rsa.out.set 15 s.rsaWin.dout[15], acc := s.rsa.acc ++ strip pay, k := s.rsa.k + 1
            filling := false }
          seq := { s.seq with sess := .noSession, proc := .idle, phase := .start } }) ∧
    ((s.cfg.hdrCheck = .off ∨ hdrOk o = true) → s.rsa.nblk ≤ s.rsa.k + 1 → s.seq.sess.active = true →
      exec (.rsaRdData 15) s = .next
        { s with
          rsa := { s.rsa with
            out := s.rsa.out.set 15 s.rsaWin.dout[15], acc := s.rsa.acc ++ strip pay, k := s.rsa.k + 1 }
          ses := { s.ses with held := s.rsa.acc ++ strip pay }
          seq := { s.seq with proc := .idle, phase := .opened } }) ∧
    ((s.cfg.hdrCheck = .off ∨ hdrOk o = true) → s.rsa.nblk ≤ s.rsa.k + 1 → s.seq.sess.active = false →
      s.seq.run = .valDecrypt →
      exec (.rsaRdData 15) s = .next
        { s with
          rsa := { s.rsa with
            out := s.rsa.out.set 15 s.rsaWin.dout[15], acc := s.rsa.acc ++ strip pay, k := s.rsa.k + 1 }
          run := { s.run with decImg := s.rsa.acc ++ strip pay }
          seq := { s.seq with run := .valParse, proc := .idle, phase := .start } })

/-- The sixteenth read ends a block of Encrypt: the 64 output bytes are appended, and the next block's filler is
drawn, or the whole ciphertext is the command's result, or a session's rule goes on with it (40_rsa section 4, R123;
`rsa_k` after the last block, log 37). -/
def Obligations.EncryptBlockEnds : Prop :=
  ∀ (s : State) (acc : Bytes), s.rsa.op = .encrypt →
    acc = s.rsa.acc ++ unwords (s.rsa.out.set 15 s.rsaWin.dout[15]).toList →
    (s.rsa.k + 1 < s.rsa.nblk →
      exec (.rsaRdData 15) s = .next
        { s with
          rsa := { s.rsa with
            out := s.rsa.out.set 15 s.rsaWin.dout[15], acc := acc, k := s.rsa.k + 1, filler := [], filling := true }
          seq := { s.seq with proc := .idle } }) ∧
    (s.rsa.nblk ≤ s.rsa.k + 1 → s.seq.sess.active = false → s.seq.run.active = false →
      exec (.rsaRdData 15) s = .next
        { s with
          port := { s.port with busy := false, resStatus := .ok, resData := acc }
          rsa := { s.rsa with
            out := s.rsa.out.set 15 s.rsaWin.dout[15], acc := acc, k := s.rsa.k + 1, filling := false }
          seq := { s.seq with sess := .noSession, proc := .idle, phase := .start } }) ∧
    (s.rsa.nblk ≤ s.rsa.k + 1 → s.seq.sess.active = true →
      exec (.rsaRdData 15) s = .next
        { s with
          rsa := { s.rsa with out := s.rsa.out.set 15 s.rsaWin.dout[15], acc := acc, k := s.rsa.k + 1 }
          ses := { s.ses with held := acc }
          seq := { s.seq with proc := .idle, phase := .sealed } })

/-! ### SHA3 bus transactions -/

/-- SHA3_WR_RESET in a hash clears FIFO and pointer and `sha_dirty`, leaves any words behind SHA3.DIGEST until the
start (log 7), and the first FIFO word is next; SHA3_WR_FIFO enqueues word j of the padded message, most significant
byte first, and sets `sha_dirty` (41_sha3 section 3; `sha_j` after the last word, log 37). -/
def Obligations.ShaStreamWrites : Prop :=
  (∀ s : State, s.port.cmd ≠ 0x00000003 →
    exec .sha3WrReset s = .next
      { s with
        shaWin := { s.shaWin with
          resetReg := s.cfg.shaResetValue, fifo := [], ptr := 0, digest := Config.freeDigestCleared s.env.draws }
        book := { s.book with shaDirty := false }
        seq := { s.seq with proc := .shaWrFifo s.sha.j }
        env := { s.env with draws := s.env.draws + 1 } }) ∧
  (∀ (s : State) (b0 b1 b2 b3 : Byte), s.sha.msg[4 * s.sha.j]? = some b0 → s.sha.msg[4 * s.sha.j + 1]? = some b1 →
    s.sha.msg[4 * s.sha.j + 2]? = some b2 → s.sha.msg[4 * s.sha.j + 3]? = some b3 →
    exec .sha3WrFifo s = .next
      { s with
        shaWin := { s.shaWin with fifo := s.shaWin.fifo ++ [b0 ++ b1 ++ b2 ++ b3] }
        book := { s.book with shaDirty := true }
        sha := { s.sha with j := s.sha.j + 1 }
        seq := { s.seq with
          proc := if s.sha.j + 1 < s.sha.msg.length / 4 then .shaWrFifo (s.sha.j + 1) else .shaWrStart } })

/-- SHA3_RD_DIGEST: a read returns the next digest word, its bytes are appended most significant first and the pointer
advances; the sixteenth ends the hash, raw or hex for the command, into `digest` in validation (41_sha3 sections 2 and
3). -/
def Obligations.Sha3RdDigestReads : Prop :=
  ∀ (s : State) (h : s.shaWin.ptr < 16) (dig : Bytes),
    dig = s.sha.dig ++ beBytes s.shaWin.digest[s.shaWin.ptr] →
    (∀ hk : dig.length / 4 < 16,
      exec .sha3RdDigest s = .next
        { s with
          shaWin := { s.shaWin with ptr := s.shaWin.ptr + 1 }
          sha := { s.sha with dig := dig }
          seq := { s.seq with proc := .shaRdDigest ⟨dig.length / 4, hk⟩ } }) ∧
    (dig.length = 64 → s.seq.run.active = false →
      exec .sha3RdDigest s = .next
        { s with
          port := { s.port with busy := false, resStatus := .ok, resData := if s.sha.hex then hexEnc dig else dig }
          rsa := { s.rsa with filling := false }
          shaWin := { s.shaWin with ptr := s.shaWin.ptr + 1 }
          sha := { s.sha with dig := dig }
          seq := { s.seq with sess := .noSession, proc := .idle, phase := .start } }) ∧
    (dig.length = 64 → s.seq.run = .valHash →
      exec .sha3RdDigest s = .next
        { s with
          run := { s.run with digest := dig }
          shaWin := { s.shaWin with ptr := s.shaWin.ptr + 1 }
          sha := { s.sha with dig := dig }
          seq := { s.seq with run := .valCompare, proc := .idle, phase := .start } })

/-- The three rows that ZU-CORE never issues: no state fetches one, no step of ZU-CORE out of reset writes their
registers, and FIFO writes pay no heed to FULL (R93, R108, R109); asked for one, the model refuses it by name
(93_implementation_defined U10). -/
def Obligations.NeverIssuedRowsRefuse : Prop :=
  (∀ s : State, exec .rsaWrStop s = .refused .rsaStopNotInSource) ∧
  (∀ s : State, exec .sha3RdFull s = .refused .sha3FullNotInSource) ∧
  (∀ s : State, exec .sha3WrCount s = .refused .sha3CountNotInSource) ∧
  (∀ s : State, fetch s ≠ some (.bus 0x148) ∧ fetch s ≠ some (.bus 0x210) ∧ fetch s ≠ some (.bus 0x348)) ∧
  (∀ s t : State, s.env.resetIn = false → step s = .next t →
    t.rsaWin.stop = s.rsaWin.stop ∧ t.shaWin.full = s.shaWin.full ∧ t.shaWin.count = s.shaWin.count) ∧
  (∀ (s t : State) (v : Word), exec .sha3WrFifo s = .next t →
    exec .sha3WrFifo { s with shaWin := { s.shaWin with full := v } } =
      .next { t with shaWin := { t.shaWin with full := v } })

/-- A window access that is asked for outside the table of R67 is refused, a misaligned one by its own name; and no
state fetches such an access (30_encoding section 5, 20_memory section 3; log 14). -/
def Obligations.ReservedAccessRefused : Prop :=
  (∀ (s : State) (d : BitVec 10), s.env.resetIn = false → s.env.busRequest = some d →
    (Code.bus d).wellFormed = false →
    step s = .refused (if d.toNat % 4 = 0 then .reservedOffset else .misalignedAccess)) ∧
  (∀ (s : State) (d : BitVec 10), fetch s = some (.bus d) → (Code.bus d).wellFormed = true)

/-! ### Messages -/

/-- UpdateCheck in state Init: sent and noted once per run, after the cancel check; not sent again (R119). That a
failed Send sends nothing is the model's choice, log 10. -/
def Obligations.UpdateCheckSentOncePerRun : Prop :=
  (∀ s : State, s.run.checkSent = false → s.env.cancel = false → s.sendAnswer = .sent →
    exec .updateCheck s = .next
      { s with
        run := { s.run with checkSent := true }
        seq := { s.seq with sess := .checkSent, phase := .start }
        env := { s.env with
          send := s.env.send.tail, draws := s.env.draws + 1
          sent := s.env.sent ++ [frame s.codec (s.codec.serUpdateCheck ⟨s.cfg.fwVersion, s.cfg.deviceId⟩)] } }) ∧
  (∀ s : State, s.run.checkSent = false → s.env.cancel = true → exec .updateCheck s = .next (s.raise .cancelled)) ∧
  (∀ s : State, s.run.checkSent = false → s.env.cancel = false → s.sendAnswer = .closed →
    exec .updateCheck s = .next ((s.tookSend []).raise .closed)) ∧
  (∀ s : State, s.run.checkSent = false → s.env.cancel = false → s.sendAnswer = .timeout →
    exec .updateCheck s = .next ((s.tookSend []).raise .timeout)) ∧
  (∀ s : State, s.run.checkSent = true →
    exec .updateCheck s = .next { s with seq := { s.seq with sess := .checkSent, phase := .start } })

/-- RecvFrame, in each of the three receiving rows: while bytes are wanted, the cancel check and one Recv of exactly
what is wanted, never more; a closed connection, 0 bytes (which is Closed too) and a timeout; then the length field's
two errors, or the body's length (42_protocol section 1). -/
def Obligations.FrameIsReceivedExactly : Prop :=
  ∀ (s : State) (i : Instr), i = .m1 ∨ i = .m3 ∨ i = .updateImage → s.frameReady = false →
    (s.ses.rxBuf.length < s.rxWant → s.env.cancel = true → exec i s = .next (s.raise .cancelled)) ∧
    (∀ b bs, s.ses.rxBuf.length < s.rxWant → s.env.cancel = false → s.recvAnswer = .data (b :: bs) →
      ∃ t, exec i s = .next t ∧
        t.ses = { s.ses with rxBuf := s.ses.rxBuf ++ (b :: bs).take (s.rxWant - s.ses.rxBuf.length) } ∧
        t.ses.rxBuf.length ≤ s.rxWant ∧ s.ses.rxBuf.length < t.ses.rxBuf.length ∧
        t.seq = s.seq ∧ t.stage = s.stage ∧ t.run = s.run ∧ t.err = s.err ∧ t.env.sent = s.env.sent) ∧
    (s.ses.rxBuf.length < s.rxWant → s.env.cancel = false → s.recvAnswer = .closed ∨ s.recvAnswer = .data [] →
      exec i s = .next ((s.tookRecv []).raise .closed)) ∧
    (s.ses.rxBuf.length < s.rxWant → s.env.cancel = false → s.recvAnswer = .timeout →
      exec i s = .next ((s.tookRecv []).raise .timeout)) ∧
    (s.rxWant ≤ s.ses.rxBuf.length → s.codec.bodyLen s.ses.rxBuf = none → exec i s = .next (s.raise .badPrefix)) ∧
    (∀ len, s.rxWant ≤ s.ses.rxBuf.length → s.codec.bodyLen s.ses.rxBuf = some len →
      512 < s.codec.pfxWidth + len → exec i s = .next (s.raise .frameTooLong)) ∧
    (∀ len, s.rxWant ≤ s.ses.rxBuf.length → s.codec.bodyLen s.ses.rxBuf = some len →
      s.codec.pfxWidth + len ≤ 512 →
      exec i s = .next { s with ses := { s.ses with rx := .body len, rxBuf := [] } })

/-- M1 and M3 with their frame received: the body's ciphertext goes to Decrypt with DevicePrivate, after the cancel
check; a body that does not parse, and a ciphertext of no whole blocks, are raised (42_protocol section 2). The cancel
check is in that step by log 21, and so by log 36 are the engine's registers set. -/
def Obligations.CiphertextMessagesOpen : Prop :=
  ∀ (s : State) (i : Instr) (par : Bytes → Option Bytes) (bad : Cause),
    (i = .m1 ∧ par = s.codec.parM1 ∧ bad = .m1) ∨ (i = .m3 ∧ par = s.codec.parM3 ∧ bad = .m3) →
    s.frameReady = true →
    (par s.ses.rxBuf = none → exec i s = .next (s.rxClear.raise bad)) ∧
    (∀ ct, par s.ses.rxBuf = some ct → s.env.cancel = true → exec i s = .next (s.rxClear.raise .cancelled)) ∧
    (∀ ct, par s.ses.rxBuf = some ct → s.env.cancel = false → (ct.length = 0 ∨ ct.length % 64 ≠ 0) →
      exec i s = .next (s.rxClear.raise .badLength)) ∧
    (∀ ct, par s.ses.rxBuf = some ct → s.env.cancel = false → ct.length ≠ 0 → ct.length % 64 = 0 →
      exec i s = .next
        { s with
          ses := { s.ses with rx := .lenField, rxBuf := [] }
          rsa := { s.rsa with
            key := .devicePrivate, nblk := ct.length / 64, k := 0, acc := [], op := .decrypt, src := ct
            inp := blockOfBytes (ct.take 64), filler := [], filling := false }
          seq := { s.seq with proc := .rsaWrData 0, phase := .engine } })

/-- OrgChallenge sets `s_ng`, or its parse failure is raised; DeviceChallenge draws `s_nd`, any word, and begins to
encrypt {device_id, ng, nd} for the organization's slot, or, the nonce drawn, is cancelled; M2 sends the ciphertext
and goes to ChallengeSent, or is cancelled, or its Send fails (42_protocol sections 1 and 2). The model's: that a
failed Send sends nothing, log 10; the filler draws that follow with `proc` idle, log 20; the cancel check in the step
of its primitive, log 21; the engine's registers set in the step of the nonce, log 36. -/
def Obligations.ChallengeIsAnswered : Prop :=
  (∀ (s : State) (ng : Word), s.codec.parOrgChallenge s.ses.held = some ng →
    exec .orgChallenge s = .next { s with ses := { s.ses with ng := ng }, seq := { s.seq with phase := .nonce } }) ∧
  (∀ s : State, s.codec.parOrgChallenge s.ses.held = none → exec .orgChallenge s = .next (s.raise .orgChallenge)) ∧
  (∀ (s : State) (w : Word) (ws : List Word), s.env.nonce = w :: ws → s.nonceWord = w) ∧
  (∀ (s : State) (dc : Bytes), s.env.cancel = false →
    dc = s.codec.serDeviceChallenge ⟨s.cfg.deviceId, s.ses.ng, s.nonceWord⟩ → dc ≠ [] →
    exec .deviceChallenge s = .next
      { s with
        ses := { s.ses with nd := s.nonceWord }
        rsa := { s.rsa with
          key := match s.ses.role with
            | .updating => .updatingOrgPublic
            | .confirming => .confirmingOrgPublic
          nblk := (dc.length + 52) / 53, k := 0, acc := [], op := .encrypt, src := dc, filler := [], filling := true }
        seq := { s.seq with proc := .idle, phase := .engine }
        env := { s.env with nonce := s.env.nonce.tail, draws := s.env.draws + 1 } }) ∧
  (∀ s : State, s.env.cancel = true →
    exec .deviceChallenge s = .next
      (State.raise .cancelled
        { s with
          ses := { s.ses with nd := s.nonceWord }
          env := { s.env with nonce := s.env.nonce.tail, draws := s.env.draws + 1 } })) ∧
  (∀ s : State, s.env.cancel = true → exec .m2 s = .next (s.raise .cancelled)) ∧
  (∀ s : State, s.env.cancel = false → s.sendAnswer = .closed →
    exec .m2 s = .next ((s.tookSend []).raise .closed)) ∧
  (∀ s : State, s.env.cancel = false → s.sendAnswer = .timeout →
    exec .m2 s = .next ((s.tookSend []).raise .timeout)) ∧
  (∀ s : State, s.env.cancel = false → s.sendAnswer = .sent →
    exec .m2 s = .next
      { s with
        seq := { s.seq with sess := .challengeSent, phase := .start }
        env := { s.env with
          send := s.env.send.tail, draws := s.env.draws + 1
          sent := s.env.sent ++ [frame s.codec (s.codec.serM2 s.ses.held)] } })

/-- OrgResponse: a matching nonce sets `s_ok`, records a confirming organization's attestation and authenticates; a
mismatch is an AuthenticationFailure and leaves `s_ok` as it was; a parse failure is raised (42_protocol section
2). -/
def Obligations.OrgResponseAuthenticates : Prop :=
  (∀ (s : State) (r : OrgResponseRec), s.codec.parOrgResponse s.ses.held = some r → r.ndEcho = s.ses.nd →
    exec .orgResponse s = .next
      { s with
        ses := { s.ses with
          ok := true
          attest := if s.ses.role = .confirming then r.hashAttestation else s.ses.attest }
        seq := { s.seq with sess := .authenticated, phase := .start } }) ∧
  (∀ (s : State) (r : OrgResponseRec), s.codec.parOrgResponse s.ses.held = some r → r.ndEcho ≠ s.ses.nd →
    s.seq.sess = .awaitM3 →
    exec .orgResponse s = .next
      { s with
        err := ⟨some .nonceMismatch, s.errOrg, some (.sess .awaitM3)⟩
        rsa := { s.rsa with filling := false }
        run := { s.run with
          sessLog := s.run.sessLog ++
            [(s.run.orgIdx, .failure ⟨some .nonceMismatch, s.errOrg, some (.sess .awaitM3)⟩)] }
        seq := { s.seq with sess := .failed, proc := .idle, phase := .start } }) ∧
  (∀ s : State, s.codec.parOrgResponse s.ses.held = none → exec .orgResponse s = .next (s.raise .orgResponse))

/-- UpdateImage with its frame received: a size within the staging store is taken and the acknowledgment is next; a
larger one is ImageTooLarge, and a body that does not parse is raised (42_protocol section 2). -/
def Obligations.UpdateImageSizeChecked : Prop :=
  ∀ s : State, s.frameReady = true →
    (∀ size, s.codec.parUpdateImage s.ses.rxBuf = some size → size.toNat ≤ s.cfg.stageCap →
      exec .updateImage s = .next
        { s with
          ses := { s.ses with rx := .lenField, rxBuf := [], imgSize := size }
          seq := { s.seq with phase := .ack } }) ∧
    (∀ size, s.codec.parUpdateImage s.ses.rxBuf = some size → s.cfg.stageCap < size.toNat →
      exec .updateImage s = .next (s.rxClear.raise .imageTooLarge)) ∧
    (s.codec.parUpdateImage s.ses.rxBuf = none → exec .updateImage s = .next (s.rxClear.raise .updateImage))

/-- The acknowledgment: the two bytes "OK", unframed, after the cancel check; it leads into the image after
UpdateImage and ends the session after it (R129 with 42_protocol section 2). That a failed Send sends nothing is the
model's choice, log 10. -/
def Obligations.OkIsSentUnframed : Prop :=
  ∀ (s : State) (after : SessState),
    (s.seq.sess = .awaitImageSize ∧ after = .receivingImage) ∨ (s.seq.sess = .imageComplete ∧ after = .sessionDone) →
    (s.env.cancel = true → exec .ok s = .next (s.raise .cancelled)) ∧
    (s.env.cancel = false → s.sendAnswer = .closed → exec .ok s = .next ((s.tookSend []).raise .closed)) ∧
    (s.env.cancel = false → s.sendAnswer = .timeout → exec .ok s = .next ((s.tookSend []).raise .timeout)) ∧
    (s.env.cancel = false → s.sendAnswer = .sent →
      exec .ok s = .next
        { s with
          seq := { s.seq with sess := after, phase := .start }
          env := { s.env with
            send := s.env.send.tail, draws := s.env.draws + 1, sent := s.env.sent ++ [[0x4F, 0x4B]] } })

/-- Image data: one Recv of at most 4096 bytes and of what remains; a cancel before it, a closed connection, 0 bytes
(which is Closed too) and a timeout fail the session and leave the staged bytes and the session's registers as they
are; then the staging of what came at the running offset, which leaves every other staged byte as it was; then the end
of the loop (42_protocol section 2, 20_memory section 4). -/
def Obligations.ImageDataReceivesAndStages : Prop :=
  (∀ (s : State) (b : Byte) (bs : Bytes), s.seq.phase ≠ .chunk → s.ses.imgRcvd < s.ses.imgSize.toNat →
    s.env.cancel = false → s.recvAnswer = .data (b :: bs) →
    ∃ t, exec .imageData s = .next t ∧
      t.ses = { s.ses with held := (b :: bs).take (min 4096 (s.ses.imgSize.toNat - s.ses.imgRcvd)) } ∧
      t.seq = { s.seq with phase := .chunk } ∧ t.stage = s.stage ∧ t.run = s.run ∧ t.err = s.err ∧
      0 < t.ses.held.length ∧ t.ses.held.length ≤ 4096 ∧
      s.ses.imgRcvd + t.ses.held.length ≤ s.ses.imgSize.toNat) ∧
  (∀ s : State, s.seq.phase ≠ .chunk → s.ses.imgRcvd < s.ses.imgSize.toNat → s.env.cancel = true →
    ∃ t, exec .imageData s = .next t ∧ t = s.raise .cancelled ∧ t.stage = s.stage ∧ t.ses = s.ses) ∧
  (∀ s : State, s.seq.phase ≠ .chunk → s.ses.imgRcvd < s.ses.imgSize.toNat → s.env.cancel = false →
    s.recvAnswer = .closed ∨ s.recvAnswer = .data [] →
    ∃ t, exec .imageData s = .next t ∧ t = (s.tookRecv []).raise .closed ∧ t.stage = s.stage ∧ t.ses = s.ses) ∧
  (∀ s : State, s.seq.phase ≠ .chunk → s.ses.imgRcvd < s.ses.imgSize.toNat → s.env.cancel = false →
    s.recvAnswer = .timeout →
    ∃ t, exec .imageData s = .next t ∧ t = (s.tookRecv []).raise .timeout ∧ t.stage = s.stage ∧ t.ses = s.ses) ∧
  (∀ s : State, s.seq.phase = .chunk → s.ses.imgRcvd + s.ses.held.length ≤ s.cfg.stageCap →
    ∃ m, exec .imageData s = .next
        { s with
          stage := m
          ses := { s.ses with imgRcvd := s.ses.imgRcvd + s.ses.held.length, held := [] }
          seq := { s.seq with phase := .start } } ∧
      (∀ i (h : i < s.ses.held.length), Memory.load m (s.ses.imgRcvd + i) = some s.ses.held[i]) ∧
      (∀ a, a < s.ses.imgRcvd ∨ s.ses.imgRcvd + s.ses.held.length ≤ a → Memory.load m a = s.stageByte a) ∧
      (Memory.wf s.stage = true → Memory.wf m = true)) ∧
  (∀ s : State, s.seq.phase ≠ .chunk → s.ses.imgSize.toNat ≤ s.ses.imgRcvd →
    exec .imageData s = .next { s with seq := { s.seq with sess := .imageComplete, phase := .start } })

/-! ### Silent steps, the run and validation -/

/-- CheckSent, ChallengeSent and Authenticated: one step each that moves the session and does nothing else (R120,
R125). -/
def Obligations.SilentSessionSteps : Prop :=
  ∀ s : State, Running s → resting s = true →
    (s.seq.sess = .checkSent →
      step s = .next { s with seq := { s.seq with sess := .awaitM1, phase := .start } }) ∧
    (s.seq.sess = .challengeSent →
      step s = .next { s with seq := { s.seq with sess := .awaitM3, phase := .start } }) ∧
    (s.seq.sess = .authenticated → s.ses.role = .confirming →
      step s = .next { s with seq := { s.seq with sess := .sessionDone, phase := .start } }) ∧
    (s.seq.sess = .authenticated → s.ses.role = .updating →
      step s = .next { s with seq := { s.seq with sess := .awaitImageSize, phase := .start } })

/-- SessionDone: the success is logged; a confirming session's attestation is collected, an updating session's size is
kept; and the run goes on to the next organization, or to validation when no error is kept (R130, with 42_protocol
section 3). -/
def Obligations.SessionDoneRecords : Prop :=
  ∀ s : State, Running s → resting s = true → s.seq.sess = .sessionDone →
    ∃ t, step s = .next t ∧
      t.run.sessLog = s.run.sessLog ++ [(s.run.orgIdx, .success)] ∧
      t.run.attests = (if s.ses.role = .confirming then s.run.attests ++ [s.ses.attest] else s.run.attests) ∧
      t.run.imgLen = (if s.ses.role = .updating then s.ses.imgSize else s.run.imgLen) ∧
      t.stage = s.stage ∧ t.rsaWin = s.rsaWin ∧ t.shaWin = s.shaWin ∧ t.env = s.env ∧
      (s.run.orgIdx + 1 < s.cfg.nOrgs →
        t.seq = ⟨.runGC, .init, .idle, .start⟩ ∧ t.run.orgIdx = s.run.orgIdx + 1 ∧ t.ses.role = .confirming ∧
        t.ses.ok = false ∧ t.ses.attest = [] ∧ t.ses.imgSize = 0 ∧ t.ses.imgRcvd = 0 ∧ t.port = s.port) ∧
      (s.cfg.nOrgs ≤ s.run.orgIdx + 1 → s.run.firstGcErr = none →
        t.seq = ⟨.valDecrypt, .noSession, .idle, .start⟩ ∧ t.port = s.port) ∧
      (∀ e, s.cfg.nOrgs ≤ s.run.orgIdx + 1 → s.run.firstGcErr = some e →
        t.seq.run = .runFailed ∧ t.err = e ∧ t.port = { s.port with busy := false, resStatus := .fail, resData := [] })

/-- A failed session: the updating one ends the run; a confirming one ends it under Abort and at a TransportFailure,
which is Closed or Timeout (R144, R145); under Continue the first error is kept and the next organization's session
starts, or the run ends in RunFailed, never in validation. However the run ends, `err` is its first error: the kept
one if there is one (R133 and R151 over R132's pseudocode, log 34; the values of `s_ng` and `s_nd` at the next
session's start, log 29). -/
def Obligations.FailedSessionDecides : Prop :=
  ∀ s : State, Running s → resting s = true → s.seq.sess = .failed →
    (s.err.kind = .transportFailure ↔ s.err.cause = some .closed ∨ s.err.cause = some .timeout) ∧
    (s.seq.run = .runGU ∨ s.cfg.confirmFail = .abort ∨ s.err.kind = .transportFailure →
      step s = .next
        { s with
          port := { s.port with busy := false, resStatus := .fail, resData := [] }
          err := s.run.firstGcErr.getD s.err
          seq := { run := .runFailed, sess := .noSession, proc := .idle, phase := .start } }) ∧
    (s.seq.run = .runGC → s.cfg.confirmFail = .goOn → s.err.kind ≠ .transportFailure →
      s.run.orgIdx + 1 < s.cfg.nOrgs →
      ∃ t, step s = .next t ∧ t.seq = ⟨.runGC, .init, .idle, .start⟩ ∧ t.run.orgIdx = s.run.orgIdx + 1 ∧
        t.run.firstGcErr = some (s.run.firstGcErr.getD s.err) ∧ t.ses = Session.fresh .confirming ∧
        t.run.sessLog = s.run.sessLog ∧ t.run.attests = s.run.attests ∧ t.port = s.port ∧ t.stage = s.stage ∧
        t.env = s.env) ∧
    (s.seq.run = .runGC → s.cfg.confirmFail = .goOn → s.err.kind ≠ .transportFailure →
      s.cfg.nOrgs ≤ s.run.orgIdx + 1 →
      ∃ t, step s = .next t ∧ t.seq = ⟨.runFailed, .noSession, .idle, .start⟩ ∧
        t.err = s.run.firstGcErr.getD s.err ∧
        t.port = { s.port with busy := false, resStatus := .fail, resData := [] } ∧ t.out = s.out ∧
        t.run.sessLog = s.run.sessLog ∧ t.stage = s.stage ∧ t.env = s.env)

/-- Validation up to the hash: step 1 decrypts the staged bytes below `img_len`, or, when that is 0 or no whole number
of blocks, raises BadLength and the run ends in RunFailed with FAIL; step 2 takes the header of 77 bytes apart, or
raises ShortImage; step 3 hashes the payload raw (42_protocol section 4; the step in which the engines' registers are
set, log 36). -/
def Obligations.ValidationDecryptsParsesHashes : Prop :=
  (∀ (s : State) (img : Bytes), Running s → resting s = true → s.seq.sess = .noSession → s.seq.run = .valDecrypt →
    img.length = s.run.imgLen.toNat → (∀ i (h : i < img.length), s.stageByte i = some img[i]) → img.length ≠ 0 →
    img.length % 64 = 0 →
    step s = .next
      { s with
        rsa := { s.rsa with
          key := .devicePrivate, nblk := img.length / 64, k := 0, acc := [], op := .decrypt, src := img
          inp := blockOfBytes (img.take 64), filler := [], filling := false }
        seq := { s.seq with proc := .rsaWrData 0, phase := .engine } }) ∧
  (∀ (s : State) (img : Bytes), Running s → resting s = true → s.seq.sess = .noSession → s.seq.run = .valDecrypt →
    img.length = s.run.imgLen.toNat → (∀ i (h : i < img.length), s.stageByte i = some img[i]) →
    (img.length = 0 ∨ img.length % 64 ≠ 0) →
    step s = .next
      { s with
        port := { s.port with busy := false, resStatus := .fail, resData := [] }
        seq := { run := .runFailed, sess := .noSession, proc := .idle, phase := .start }
        err := ⟨some .badLength, some s.run.orgIdx, some (.run .valDecrypt)⟩ }) ∧
  (∀ s : State, Running s → resting s = true → s.seq.sess = .noSession → s.seq.run = .valParse →
    77 ≤ s.run.decImg.length →
    ∃ h : ImageHeader, step s = .next
        { s with run := { s.run with hdr := some h }, seq := { s.seq with run := .valHash } } ∧
      s.run.decImg = [h.lenByte] ++ h.sizeA ++ h.sizeB ++ h.sizeC ++ h.hash ++ imagePayload s.run.decImg ∧
      h.sizeA.length = 4 ∧ h.sizeB.length = 4 ∧ h.sizeC.length = 4 ∧ h.hash.length = 64) ∧
  (∀ s : State, Running s → resting s = true → s.seq.sess = .noSession → s.seq.run = .valParse →
    s.run.decImg.length < 77 → step s = .next (s.raise .shortImage)) ∧
  (∀ s : State, Running s → resting s = true → s.seq.sess = .noSession → s.seq.run = .valHash →
    step s = .next
      { s with
        sha := { s.sha with msg := shaPad (s.run.decImg.drop 77), j := 0, dig := [], hex := false }
        seq := { s.seq with proc := .shaWrReset, phase := .engine } })

/-- An attestation matches a digest when it is the digest itself (Raw64) or its hex form (Hex128), as whole byte
strings, so that one of another length never matches (R137). Validation's comparison: full agreement signals ready to
install with the header and the payload; a digest that is not the header's hash is HeaderMismatch; else the first
attestation that does not match is AttestMismatch (R138, R139). -/
def Obligations.ValidationCompares : Prop :=
  (∀ d a : Bytes, attestEq .raw64 d a = true ↔ a = d) ∧
  (∀ d a : Bytes, attestEq .hex128 d a = true ↔ a = hexEnc d) ∧
  (∀ (enc : AttestEnc) (d a : Bytes), d.length = 64 → a.length ≠ (if enc = .raw64 then 64 else 128) →
    attestEq enc d a = false) ∧
  State.reset.cfg.attestEnc = .raw64 ∧
  ∀ (s : State) (h : ImageHeader), Running s → resting s = true → s.seq.sess = .noSession →
    s.seq.run = .valCompare → s.run.hdr = some h →
    (s.run.digest = h.hash → (∀ a ∈ s.run.attests, attestEq s.cfg.attestEnc s.run.digest a = true) →
      step s = .next
        { s with
          port := { s.port with busy := false, resStatus := .ok, resData := [] }
          seq := { run := .runReady, sess := .noSession, proc := .idle, phase := .start }
          out := { ready := true, installHdr := h, installPayload := s.run.decImg.drop 77 } }) ∧
    (s.run.digest ≠ h.hash → step s = .next (s.raise .headerMismatch)) ∧
    (∀ (pre post : List Bytes) (a : Bytes), s.run.digest = h.hash → s.run.attests = pre ++ a :: post →
      (∀ x ∈ pre, attestEq s.cfg.attestEnc s.run.digest x = true) →
      attestEq s.cfg.attestEnc s.run.digest a = false →
      step s = .next (s.raise (.attestMismatch (pre.length + 1))))

/-- The raise: the error record; the engine procedure ended; a session failed and logged, or the command completed
with FAIL; and nothing else: no window, no staged byte, nothing sent, no engine register but the model's own mark that
filler is being drawn (60_exceptions section 2, 42_protocol section 2; the mark, log 19). And the kind's code and the
subcode of every cause (60_exceptions section 1). -/
def Obligations.RaiseIsPrecise : Prop :=
  ((∀ e : ErrRec, e.kind = match e.cause with
      | none => .none
      | some c => c.kind) ∧
    ErrKind.none.code = 0 ∧
    [Cause.badPrefix, .frameTooLong, .m1, .orgChallenge, .m3, .orgResponse, .updateImage, .imageTooLarge].map
      (fun c => (c.kind.code, c.sub)) = [(1, 1), (1, 2), (1, 3), (1, 4), (1, 5), (1, 6), (1, 7), (1, 8)] ∧
    (∀ (x : CoreId) (k : Nat), [Cause.hardwareTimeout x, .invalidPadding k, .badLength, .keySlotMisuse].map
      (fun c => (c.kind.code, c.sub)) = [(2, 1), (2, 2), (2, 3), (2, 4)]) ∧
    (∀ i : Nat,
      [Cause.nonceMismatch, .closed, .timeout, .shortImage, .headerMismatch, .attestMismatch i, .cancelled].map
        (fun c => (c.kind.code, c.sub)) = [(3, 1), (4, 1), (4, 2), (5, 1), (5, 2), (5, 3), (6, 0)])) ∧
  ∀ (s : State) (c : Cause),
    (s.raise c).err =
      ⟨some c, if s.seq.run.active then some s.run.orgIdx else none,
        some (if s.seq.sess.active then .sess s.seq.sess else .run s.seq.run)⟩ ∧
    (s.raise c).seq.proc = .idle ∧ (s.raise c).seq.phase = .start ∧
    (s.seq.sess.active = true → (s.raise c).seq.sess = .failed ∧ (s.raise c).seq.run = s.seq.run ∧
      (s.raise c).port = s.port ∧
      (s.raise c).run = { s.run with sessLog := s.run.sessLog ++ [(s.run.orgIdx, .failure (s.raise c).err)] }) ∧
    (s.seq.sess.active = false → (s.raise c).seq.sess = .noSession ∧ (s.raise c).run = s.run ∧
      (s.raise c).seq.run = (if s.seq.run.active then .runFailed else s.seq.run) ∧
      (s.raise c).port = { s.port with busy := false, resStatus := .fail, resData := [] }) ∧
    (s.raise c).rsaWin = s.rsaWin ∧ (s.raise c).shaWin = s.shaWin ∧ (s.raise c).stage = s.stage ∧
    (s.raise c).env = s.env ∧ (s.raise c).book = s.book ∧ (s.raise c).ses = s.ses ∧ (s.raise c).out = s.out ∧
    (s.raise c).rsa = { s.rsa with filling := false } ∧ (s.raise c).sha = s.sha ∧ (s.raise c).cfg = s.cfg

/-! ### Pure functions of the engines -/

/-- Segmentation: the segments in order are the plaintext; every one but the last has 53 bytes, and the last has 1 to
53; the empty plaintext has none (R76). -/
def Obligations.SegmentsCoverPlaintext : Prop :=
  ∀ p : Bytes,
    segCount p = (p.length + 52) / 53 ∧
    (List.range (segCount p)).flatMap (segAt p) = p ∧
    (∀ k, k + 1 < segCount p → (segAt p k).length = 53) ∧
    (∀ k, k + 1 = segCount p → (segAt p k).length = p.length - 53 * k ∧ 1 ≤ (segAt p k).length ∧
      (segAt p k).length ≤ 53) ∧
    (p = [] ↔ segCount p = 0)

/-- The header check of any 64-byte block: bytes 0x00 and 0x02, eight non-zero bytes, and a zero byte (40_rsa section
1). The block of a segment: 64 bytes, header, filler, terminator, pad run and segment in that order, a pad byte having
the run's length as its value, 1 to 0x34, and a run standing only in the last segment's block (R78); its header passes
the check exactly when no filler byte is zero, and its payload is the pad run and then the segment. -/
def Obligations.PaddedBlockLayout : Prop :=
  (∀ o : Bytes, o.length = 64 →
    (hdrOk o = true ↔ o[0]? = some 0x00 ∧ o[1]? = some 0x02 ∧ (∀ i, 2 ≤ i → i ≤ 9 → o[i]? ≠ some 0x00) ∧
      o[10]? = some 0x00)) ∧
  (∀ (seg f : Bytes) (n : Nat), 1 ≤ seg.length → seg.length ≤ 53 → f.length = 8 → n = 53 - seg.length →
    (padBlock seg f).length = 64 ∧
    padBlock seg f = [0x00, 0x02] ++ f ++ [0x00] ++ List.replicate n (BitVec.ofNat 8 n) ++ seg ∧
    (BitVec.ofNat 8 n).toNat = n ∧ n ≤ 0x34 ∧
    (hdrOk (padBlock seg f) = true ↔ FillerValid f) ∧
    payloadOf (padBlock seg f) = List.replicate n (BitVec.ofNat 8 n) ++ seg) ∧
  (∀ (p f : Bytes) (k : Nat), k + 1 < segCount p →
    padBlock (segAt p k) f = [0x00, 0x02] ++ f ++ [0x00] ++ segAt p k)

/-- Strip drops a valid pad run at the front and otherwise changes nothing (R80), and stripping twice is stripping
once exactly when the stripped string begins with no valid run (R96). -/
def Obligations.StripLaws : Prop :=
  (∀ (p : Byte) (rest : Bytes), 1 ≤ p.toNat → p.toNat ≤ (p :: rest).length →
    (∀ i, i < p.toNat → (p :: rest)[i]? = some p) → strip (p :: rest) = (p :: rest).drop p.toNat) ∧
  (∀ (p : Byte) (rest : Bytes), p.toNat = 0 ∨ (p :: rest).length < p.toNat ∨
      (∃ i, i < p.toNat ∧ (p :: rest)[i]? ≠ some p) → strip (p :: rest) = p :: rest) ∧
  strip [] = [] ∧
  (∀ x : Bytes, strip (strip x) = strip x ↔
    ¬∃ (p : Byte) (rest : Bytes), strip x = p :: rest ∧ 1 ≤ p.toNat ∧ p.toNat ≤ (p :: rest).length ∧
      ∀ i, i < p.toNat → (p :: rest)[i]? = some p)

/-- Round trip, the blocks that Encrypt builds opened by Decrypt's rule: the plaintext comes back exactly unless its
last segment is full and begins with a valid pad run (40_rsa section 6, 90_conflicts C2). -/
def Obligations.PaddedBlocksOpenToPlaintext : Prop :=
  ∀ (p : Bytes) (f : Nat → Bytes), p ≠ [] → (∀ k, FillerValid (f k)) →
    (∀ o ∈ paddedBlocks p f, o.length = 64 ∧ hdrOk o = true) ∧
    (openBlocks (paddedBlocks p f) = p ↔
      ¬(p.length % 53 = 0 ∧ strip (segAt p (segCount p - 1)) ≠ segAt p (segCount p - 1)))

/-- The padded hash message is the message and 1 to 64 bytes of 0xFF, a whole number of 64-byte blocks, one more than
the message fills (R97); the hex form has two characters a byte, high nibble first, and is injective (R98). -/
def Obligations.HashPaddingAndHexForm : Prop :=
  (∀ m : Bytes, ∃ n, 1 ≤ n ∧ n ≤ 64 ∧ shaPad m = m ++ List.replicate n 0xFF ∧
    (shaPad m).length = 64 * (m.length / 64 + 1)) ∧
  (∀ d : Bytes, (hexEnc d).length = 2 * d.length) ∧
  (∀ (d : Bytes) (i : Nat) (h : i < d.length),
    (hexEnc d)[2 * i]? = some (hexDigit (d[i].toNat / 16)) ∧
    (hexEnc d)[2 * i + 1]? = some (hexDigit (d[i].toNat % 16))) ∧
  (∀ n, n < 10 → hexDigit n = BitVec.ofNat 8 (0x30 + n)) ∧
  (∀ n, n < 6 → hexDigit (10 + n) = BitVec.ofNat 8 (0x61 + n)) ∧
  (∀ d e : Bytes, hexEnc d = hexEnc e → d = e)

/-- Words and bytes: packing puts the earlier byte in the more significant place, unpacking undoes it, word by word
(R11); and both ways a byte string of whole words and a list of words come back. -/
def Obligations.WordPackingRoundTrips : Prop :=
  (∀ w : Word, beBytes w = [w.extractLsb 31 24, w.extractLsb 23 16, w.extractLsb 15 8, w.extractLsb 7 0]) ∧
  words [] = [] ∧ unwords [] = [] ∧
  (∀ (b0 b1 b2 b3 : Byte) (s : Bytes), words (b0 :: b1 :: b2 :: b3 :: s) = be32 b0 b1 b2 b3 :: words s) ∧
  (∀ (w : Word) (ws : List Word), unwords (w :: ws) = beBytes w ++ unwords ws) ∧
  (∀ b0 b1 b2 b3 : Byte,
    (be32 b0 b1 b2 b3).toNat = b0.toNat * 2 ^ 24 + b1.toNat * 2 ^ 16 + b2.toNat * 2 ^ 8 + b3.toNat ∧
    beBytes (be32 b0 b1 b2 b3) = [b0, b1, b2, b3]) ∧
  (∀ ws : List Word, words (unwords ws) = ws) ∧
  (∀ s : Bytes, s.length % 4 = 0 → unwords (words s) = s) ∧
  (∀ s : Bytes, s.length = 64 → unwords (blockOfBytes s).toList = s)

/-! ### Whole commands -/

/-- SHA3_HASH runs to its end: with `pre.length` reads before the ready value, within the bound, the command takes the
acceptance, 1 reset write, 16(⌊|M|/64⌋+1) FIFO writes, 1 start write, the ready reads and 16 digest reads, and ends
with OK and the core's digest, raw or hex; every word of the padded message was written in order; nothing outside the
SHA3 window was touched (41_sha3 sections 2 and 4; the count of steps is the model's, log 1). -/
def Obligations.Sha3HashCommandCompletes : Prop :=
  ∀ (s : State) (l : HostLine) (rest : List HostLine) (hex : Bool) (pre more : List Word) (d : Block)
    (ds : List Block),
    IdleReady s → s.env.program = l :: rest → l.word = (if hex then 0x00000404 else 0x00000004) →
    s.env.shaReady = pre ++ s.cfg.shaReady :: more → (∀ w ∈ pre, w ≠ s.cfg.shaReady) →
    pre.length < s.cfg.pollMax → s.env.shaDigest = d :: ds →
    ∃ t, steps (1 + 1 + 16 * (l.data.length / 64 + 1) + 1 + (pre.length + 1) + 16) s = .next t ∧
      t.port = ⟨false, l.word, l.data, .ok, if hex then hexEnc (unwords d.toList) else unwords d.toList⟩ ∧
      t.shaWin.fifo = words (shaPad l.data) ∧ t.shaWin.resetReg = s.cfg.shaResetValue ∧
      t.shaWin.start = s.cfg.shaStartValue ∧ t.book = { s.book with shaDirty := true } ∧
      t.seq.sess = .noSession ∧ t.seq.run = s.seq.run ∧ t.seq.proc = .idle ∧ t.err = ErrRec.clear ∧
      t.rsaWin = s.rsaWin ∧ t.stage = s.stage ∧ t.env.sent = s.env.sent ∧ t.env.recv = s.env.recv

/-- What the cores answer, under the spec's named premises: at a start with A_RSA_FN the sixteen output words are the
core's function of the key index and the words written; with A_SHA_FN and A_FIFO_OK the digest is the core's function
of the whole padded message, and for the two known messages it is the known digest (R84, R99, R100; log 25). -/
def Obligations.CoresAnswerWhatWasWritten : Prop :=
  (∀ (f : Word → Block → Block) (s : State), RsaAnswers f s →
    ∃ t, exec .rsaWrStart s = .next t ∧ t.rsaWin.dout = f s.rsaWin.keysel s.rsaWin.din) ∧
  (∀ (f : Bytes → Bytes) (s : State), HashOrdered s → s.seq.proc = .shaWrStart → ShaAnswers f s →
    ∃ t, exec .sha3WrStart s = .next t ∧ unwords t.shaWin.digest.toList = f s.sha.msg) ∧
  (∀ (f : Bytes → Bytes) (s : State), HashOrdered s → s.seq.proc = .shaWrStart → ShaAnswers f s → ShaKnownValues f →
    ∃ t, exec .sha3WrStart s = .next t ∧
      (s.sha.msg = shaPad shaVector1 → t.shaWin.digest.toList = shaVector1Words) ∧
      (s.sha.msg = shaPad (shaVector1 ++ shaVector1) → t.shaWin.digest.toList = shaVector2Words))

/-- RSA_DECRYPT of n blocks runs to its end, one status read a block: 35 steps a block after the acceptance, the last
block's words and the private slot's index on the bus, and the result is the opened payloads in order with the last
one stripped; nothing outside the RSA window was touched (40_rsa sections 3 and 4; the count of steps is the model's,
log 1). -/
def Obligations.RsaDecryptCommandCompletes : Prop :=
  ∀ (s : State) (l : HostLine) (rest : List HostLine) (n : Nat) (more : List Word) (rs rs' : List Block),
    IdleReady s → s.env.program = l :: rest → l.word = 0x00000002 → 0 < n → l.data.length = 64 * n →
    s.env.rsaStatus = List.replicate n s.cfg.rsaDone ++ more → s.env.rsaResult = rs ++ rs' → rs.length = n →
    (s.cfg.hdrCheck = .strict → ∀ r ∈ rs, hdrOk (unwords r.toList) = true) →
    ∃ t, steps (1 + 35 * n) s = .next t ∧
      t.port = ⟨false, l.word, l.data, .ok, openBlocks (rs.map fun r => unwords r.toList)⟩ ∧
      t.rsaWin.din = blockOfBytes (l.data.drop (64 * (n - 1))) ∧
      t.rsaWin.keysel = s.cfg.keyIndex.devicePrivate ∧ t.rsaWin.start = 1 ∧ t.rsaWin.stop = s.rsaWin.stop ∧
      t.seq.sess = .noSession ∧ t.seq.run = s.seq.run ∧ t.seq.proc = .idle ∧ t.err = ErrRec.clear ∧
      t.book = s.book ∧ t.shaWin = s.shaWin ∧ t.stage = s.stage ∧ t.env.sent = s.env.sent ∧
      t.env.recv = s.env.recv

/-- RSA_ENCRYPT runs to its end, one status read a block: for each of the ⌈|P|/53⌉ blocks 8 filler draws and 35 bus
accesses, and the result is the core's answers in order, 64 bytes a block; the last block on the bus is the padded
last segment under the slot's index (40_rsa sections 3, 4 and 6). The count of steps is the model's: silent steps, log
1; one draw a step, log 20; and with no block at all the command ends in its acceptance step, log 17. -/
def Obligations.RsaEncryptCommandCompletes : Prop :=
  ∀ (s : State) (l : HostLine) (rest : List HostLine) (key : KeySlot) (n : Nat) (fs fs' : Bytes) (more : List Word)
    (rs rs' : List Block),
    IdleReady s → s.env.program = l :: rest → decode (.cmd l.word) = .ok (.rsaEncrypt key) → key ≠ .devicePrivate →
    n = segCount l.data → s.env.filler = fs ++ fs' → fs.length = 8 * n → (∀ b ∈ fs, b ≠ 0) →
    s.env.rsaStatus = List.replicate n s.cfg.rsaDone ++ more → s.env.rsaResult = rs ++ rs' → rs.length = n →
    ∃ t, steps (1 + 43 * n) s = .next t ∧
      t.port = ⟨false, l.word, l.data, .ok, rs.flatMap fun r => unwords r.toList⟩ ∧
      t.port.resData.length = 64 * n ∧
      (0 < n →
        t.rsaWin.din = blockOfBytes (padBlock (segAt l.data (n - 1)) (fs.drop (8 * (n - 1)))) ∧
        t.rsaWin.keysel = keyIndexOf s.cfg.keyIndex key ∧ t.rsaWin.start = 1) ∧
      (n = 0 → t.rsaWin = s.rsaWin) ∧
      t.seq.sess = .noSession ∧ t.seq.run = s.seq.run ∧ t.seq.proc = .idle ∧ t.err = ErrRec.clear ∧
      t.book = s.book ∧ t.shaWin = s.shaWin ∧ t.stage = s.stage ∧ t.env.sent = s.env.sent ∧
      t.env.recv = s.env.recv

/-- Round trip through the machine: under A_RSA_FN and A_KEYPAIR, `ENCRYPT_GU p` and then `DECRYPT` of its result give
`p` back, whatever the filler and the header check's setting, unless the last segment of `p` is full and begins with a
valid pad run (40_rsa section 6, 90_conflicts C2; the count of steps is the model's, logs 1 and 20). -/
def Obligations.EncryptThenDecryptRoundTrips : Prop :=
  ∀ (s : State) (f : Word → Block → Block) (p c fs fs' : Bytes) (rest : List HostLine) (n : Nat) (cs rs' : List Block)
    (more : List Word),
    IdleReady s → p ≠ [] → n = segCount p → s.env.program = ⟨0x00000101, p⟩ :: ⟨0x00000002, c⟩ :: rest →
    s.env.filler = fs ++ fs' → fs.length = 8 * n → (∀ b ∈ fs, b ≠ 0) →
    s.env.rsaStatus = List.replicate (2 * n) s.cfg.rsaDone ++ more →
    cs = ((List.range n).map fun k =>
      f s.cfg.keyIndex.updatingOrgPublic (blockOfBytes (padBlock (segAt p k) ((fs.drop (8 * k)).take 8)))) →
    c = (cs.flatMap fun r => unwords r.toList) →
    s.env.rsaResult = cs ++ cs.map (f s.cfg.keyIndex.devicePrivate) ++ rs' → KeyPair f s.cfg.keyIndex →
    ¬(p.length % 53 = 0 ∧ strip (segAt p (n - 1)) ≠ segAt p (n - 1)) →
    ∃ t, steps (1 + 43 * n + (1 + 35 * n)) s = .next t ∧ t.port = ⟨false, 0x00000002, c, .ok, p⟩ ∧
      t.err = ErrRec.clear ∧ t.book = s.book ∧ t.env.program = rest

/-- A framed message is received whole and nothing after it is consumed: with a lawful codec and a body whose length
the codec can frame and that fits the 512-byte buffer, standing at the head of the stream, three steps take the
prefix, its length and the body (two, when the body is empty), and what follows in the stream stays there (42_protocol
section 1, 30_encoding section 4; the steps are the model's, log 1). -/
def Obligations.FramedMessageIsReceivedWhole : Prop :=
  ∀ (canFrame : Nat → Prop) (s : State) (b after : Bytes) (tl : List RecvAnswer), Running s → resting s = true →
    (s.seq.sess = .awaitM1 ∨ s.seq.sess = .awaitM3 ∨ s.seq.sess = .awaitImageSize) → s.seq.phase = .start →
    s.ses.rx = .lenField → s.ses.rxBuf = [] → s.env.cancel = false → s.env.boot.linkUp = true →
    CodecLawful canFrame s.codec → canFrame b.length → s.codec.pfxWidth + b.length ≤ 512 →
    s.env.recv = .data (frame s.codec b ++ after) :: tl →
    ∃ t, steps (if b = [] then 2 else 3) s = .next t ∧ t.frameReady = true ∧
      t.ses = { s.ses with rx := .body b.length, rxBuf := b } ∧
      t.env.recv = (if after = [] then tl else .data after :: tl) ∧ t.seq = s.seq ∧ t.port = s.port ∧
      t.run = s.run ∧ t.err = s.err ∧ t.stage = s.stage ∧ t.env.sent = s.env.sent

/-! ### Invariants and rules of the whole machine -/

/-- Every invariant below holds right after reset. -/
def Obligations.InvariantsHoldAtReset : Prop :=
  Placed State.reset ∧ KeyFits State.reset ∧ PollBounded State.reset ∧ HashOrdered State.reset ∧
  StageSound State.reset ∧ QuorumSound State.reset

/-- The sequencing tuple stays one for which the spec gives a step (10_state section 3). -/
def Obligations.SequencingInvariantKept : Prop :=
  ∀ s t : State, Placed s → step s = .next t → Placed t

/-- The private slot only decrypts and the public slots only encrypt; no poll passes its bound (60_exceptions section
5, 40_rsa section 2). -/
def Obligations.KeyDisciplineAndPollBoundKept : Prop :=
  ∀ s t : State, step s = .next t → (KeyFits s → KeyFits t) ∧ (PollBounded s → PollBounded t)

/-- A hash streams the words of its padded message in order, all of them, after a reset write that cleared what was
there; its digest reads follow in order (41_sha3 section 2, 70_reset section 3; log 33). -/
def Obligations.HashOrderKept : Prop :=
  ∀ s t : State, HashOrdered s → step s = .next t → HashOrdered t

/-- The staging store keeps its canonical form and holds every byte the run counts on, within its capacity (20_memory
section 4, 42_protocol section 2). -/
def Obligations.StagingInvariantKept : Prop :=
  ∀ s t : State, Placed s → StageSound s → step s = .next t → StageSound t

/-- The run's log and attestations follow its sessions, and ready_to_install stands only for a completed run with full
agreement (42_protocol sections 3 to 5). -/
def Obligations.QuorumInvariantKept : Prop :=
  ∀ s t : State, Placed s → QuorumSound s → step s = .next t → QuorumSound t

/-- In every state that ZU-CORE and the agents around it reach from a placed state with a sound run record, such as
the state after reset, ready_to_install = 1 means: ZU-CORE is idle in RunReady, every organization's session
succeeded, the image is decrypted and at least 77 bytes long, its payload's digest is the header's hash and every
attestation matches it (42_protocol section 5). -/
def Obligations.ReadyMeansAgreement : Prop :=
  ∀ s t : State, ParamsValid s.cfg → Placed s → QuorumSound s → Evolves s t → t.out.ready = true →
    t.cfg = s.cfg ∧ t.port.busy = false ∧ t.seq.run = .runReady ∧ t.run.sessLog = successLog s.cfg.nOrgs ∧
    t.run.attests.length + 1 = s.cfg.nOrgs ∧ 77 ≤ t.run.decImg.length ∧
    t.run.digest = (t.run.decImg.drop 13).take 64 ∧ t.out.installHdr.hash = t.run.digest ∧
    t.out.installPayload = t.run.decImg.drop 77 ∧
    (∀ a ∈ t.run.attests, attestEq s.cfg.attestEnc t.run.digest a = true)

/-- From a placed state with a sound staging store no step faults, nor from any state it evolves into: ZU-CORE reads
no staged byte it did not write and never passes the store's end (20_memory section 4, 42_protocol section 2). -/
def Obligations.SoundStatesNeverFault : Prop :=
  ∀ (s t : State) (f : Fault), Placed s → StageSound s → Evolves s t → step t ≠ .fault f

/-- No step writes a parameter, removes a staged byte, or takes back a byte string sent; and no step but the staging
of an image chunk writes the store (00_scope section 5, 42_protocol section 2). That a reset leaves the staged bytes
and the strings sent too (70_reset section 1) is the model's choice, log 35. -/
def Obligations.ParametersAndStagedBytesStay : Prop :=
  ∀ s t : State, step s = .next t →
    t.cfg = s.cfg ∧
    (∀ a, (s.stageByte a).isSome → (t.stageByte a).isSome) ∧
    (¬(s.seq.sess = .receivingImage ∧ s.seq.phase = .chunk) → t.stage = s.stage) ∧
    s.env.sent <+: t.env.sent

/-- `suspect[c]` is set only at a HardwareTimeout of core c; nothing but reset clears it; and ZU-CORE's own steps
never read it: two states that differ only there step to two states that differ only there (10_state section 5). -/
def Obligations.SuspectIsBookkeeping : Prop :=
  (∀ s t : State, step s = .next t → s.env.resetIn = false →
    (s.book.suspectRsa = true → t.book.suspectRsa = true) ∧
    (s.book.suspectSha = true → t.book.suspectSha = true) ∧
    (s.book.suspectRsa = false → t.book.suspectRsa = true → t.err.cause = some (.hardwareTimeout .rsa)) ∧
    (s.book.suspectSha = false → t.book.suspectSha = true → t.err.cause = some (.hardwareTimeout .sha3))) ∧
  (∀ (s t : State) (r x : Bool), step s = .next t →
    ∃ t', step { s with book := { s.book with suspectRsa := r, suspectSha := x } } = .next t' ∧
      { t' with book := ⟨t'.book.shaDirty, false, false⟩ } = { t with book := ⟨t.book.shaDirty, false, false⟩ })

/-- `cancel` is sampled only in a session: outside one, and inside an engine procedure, a step is the same whatever
the input is (60_exceptions section 3, 42_protocol section 1). -/
def Obligations.CancelIsSampledInSessionsOnly : Prop :=
  ∀ (s t : State) (c : Bool), (s.seq.sess.active = false ∨ s.seq.proc ≠ .idle ∨ s.rsa.filling = true) →
    s.env.busRequest = none → step s = .next t →
    step { s with env := { s.env with cancel := c } } = .next { t with env := { t.env with cancel := c } }
end

