-- ==== Sys2Proof/Laws/Memory.lean ====
section
/-! SUPPORT. The laws of the staging store: a read after a write, every other offset, the canonical form, and whole byte
strings. -/

namespace Sys2Proof.Machine

theorem Memory.load_store_self (m : List Host.Cell) (a : Nat) (b : Byte) :
    Memory.load (Memory.store m a b) a = some b := by
  induction m with
  | nil => simp [Memory.store, Memory.load]
  | cons c t ih =>
    unfold Memory.store
    split
    · simp [Memory.load]
    · split
      · simp [Memory.load]
      · rename_i h₁ h₂
        have hc : c.1 ≠ a := fun h => h₂ h.symm
        simp [Memory.load, hc, h₁, ih]

theorem Memory.load_store_other (m : List Host.Cell) (a x : Nat) (b : Byte) (h : x ≠ a) :
    Memory.load (Memory.store m a b) x = Memory.load m x := by
  induction m with
  | nil => simp [Memory.store, Memory.load, Ne.symm h]
  | cons c t ih =>
    unfold Memory.store
    split
    · rename_i hac
      by_cases hx : x < a
      · have h₁ : c.1 ≠ x := by omega
        have h₂ : x < c.1 := by omega
        simp [Memory.load, Ne.symm h, hx, h₁, h₂]
      · simp [Memory.load, Ne.symm h, hx]
    · split
      · rename_i _ hac
        subst hac
        by_cases hx : x < c.1 <;> simp [Memory.load, Ne.symm h, hx]
      · simp [Memory.load, ih]

/-- The first offset listed, if any, is above `n`. -/
theorem Memory.wf_cons {c : Host.Cell} {t : List Host.Cell} :
    Memory.wf (c :: t) = true ↔ (∀ d ∈ t.head?, c.1 < d.1) ∧ Memory.wf t = true := by
  cases t <;> simp [Memory.wf]

theorem Memory.head_store (m : List Host.Cell) (a n : Nat) (b : Byte) (ha : n < a)
    (hm : ∀ d ∈ m.head?, n < d.1) : ∀ d ∈ (Memory.store m a b).head?, n < d.1 := by
  cases m with
  | nil => simpa [Memory.store] using ha
  | cons c t =>
    unfold Memory.store
    split
    · simpa using ha
    · split
      · simpa using ha
      · simpa using hm

theorem Memory.wf_store (m : List Host.Cell) (a : Nat) (b : Byte) (h : Memory.wf m = true) :
    Memory.wf (Memory.store m a b) = true := by
  induction m with
  | nil => simp [Memory.store, Memory.wf]
  | cons c t ih =>
    obtain ⟨h₁, h₂⟩ := Memory.wf_cons.mp h
    unfold Memory.store
    split
    · rename_i hac
      exact Memory.wf_cons.mpr ⟨by simpa using hac, h⟩
    · split
      · rename_i _ hac
        exact Memory.wf_cons.mpr ⟨by simpa [hac] using h₁, h₂⟩
      · exact Memory.wf_cons.mpr ⟨Memory.head_store t a c.1 b (by omega) h₁, ih h₂⟩

theorem Memory.wf_storeBytes (bs : Bytes) (m : List Host.Cell) (a : Nat) (h : Memory.wf m = true) :
    Memory.wf (Memory.storeBytes m a bs) = true := by
  induction bs generalizing m a with
  | nil => exact h
  | cons b bs ih => exact ih _ _ (Memory.wf_store m a b h)

/-- A byte string's write leaves every offset outside it as it was. -/
theorem Memory.load_storeBytes_outside (bs : Bytes) (m : List Host.Cell) (a x : Nat)
    (h : x < a ∨ a + bs.length ≤ x) : Memory.load (Memory.storeBytes m a bs) x = Memory.load m x := by
  induction bs generalizing m a with
  | nil => rfl
  | cons b bs ih =>
    simp only [List.length_cons] at h
    rw [Memory.storeBytes, ih _ _ (by omega), Memory.load_store_other _ _ _ _ (by omega)]

/-- A byte string's write puts its i-th byte at the i-th offset. -/
theorem Memory.load_storeBytes_inside (bs : Bytes) (m : List Host.Cell) (a i : Nat) (h : i < bs.length) :
    Memory.load (Memory.storeBytes m a bs) (a + i) = some bs[i] := by
  induction bs generalizing m a i with
  | nil => simp at h
  | cons b bs ih =>
    cases i with
    | zero =>
      rw [Memory.storeBytes, Memory.load_storeBytes_outside _ _ _ _ (by omega)]
      simpa using Memory.load_store_self m a b
    | succ i =>
      have := ih (Memory.store m a b) (a + 1) i (by simpa using h)
      simpa [Memory.storeBytes, Nat.add_assoc, Nat.add_comm 1 i] using this

/-- A write unwrites nothing. -/
theorem Memory.load_storeBytes_isSome (bs : Bytes) (m : List Host.Cell) (a x : Nat)
    (h : (Memory.load m x).isSome) : (Memory.load (Memory.storeBytes m a bs) x).isSome := by
  by_cases hx : x < a ∨ a + bs.length ≤ x
  · rwa [Memory.load_storeBytes_outside bs m a x hx]
  · obtain ⟨i, rfl⟩ : ∃ i, x = a + i := ⟨x - a, by omega⟩
    rw [Memory.load_storeBytes_inside bs m a i (by omega)]
    rfl

/-- A read of offsets that have all been written answers. -/
theorem Memory.loadBytes_isSome (m : List Host.Cell) (a n : Nat)
    (h : ∀ x, a ≤ x → x < a + n → (Memory.load m x).isSome) : (Memory.loadBytes m a n).isSome := by
  induction n generalizing a with
  | zero => rfl
  | succ n ih =>
    obtain ⟨b, hb⟩ := Option.isSome_iff_exists.mp (h a (by omega) (by omega))
    obtain ⟨bs, hbs⟩ := Option.isSome_iff_exists.mp (ih (a + 1) fun x h₁ h₂ => h x (by omega) (by omega))
    simp [Memory.loadBytes, hb, hbs]

theorem Memory.length_loadBytes (m : List Host.Cell) (a n : Nat) (bs : Bytes)
    (h : Memory.loadBytes m a n = some bs) : bs.length = n := by
  induction n generalizing a bs with
  | zero => simp_all [Memory.loadBytes]
  | succ n ih =>
    unfold Memory.loadBytes at h
    split at h
    · rename_i b bs' _ hbs
      cases h
      simp [ih _ _ hbs]
    · cases h

end Sys2Proof.Machine
end

