-- ==== Sys2Proof/Laws/State.lean ====
section
/-! SUPPORT. One lemma per field of State per plain update: what the update leaves in it. -/

namespace Sys2Proof.Machine

/-! `goProc` -/
@[simp] theorem State.goProc_cfg (p : Proc) (s : State) : (s.goProc p).cfg = s.cfg := rfl
@[simp] theorem State.goProc_port (p : Proc) (s : State) : (s.goProc p).port = s.port := rfl
@[simp] theorem State.goProc_seq (p : Proc) (s : State) : (s.goProc p).seq = { s.seq with proc := p } := rfl
@[simp] theorem State.goProc_rsa (p : Proc) (s : State) : (s.goProc p).rsa = s.rsa := rfl
@[simp] theorem State.goProc_sha (p : Proc) (s : State) : (s.goProc p).sha = s.sha := rfl
@[simp] theorem State.goProc_book (p : Proc) (s : State) : (s.goProc p).book = s.book := rfl
@[simp] theorem State.goProc_ses (p : Proc) (s : State) : (s.goProc p).ses = s.ses := rfl
@[simp] theorem State.goProc_run (p : Proc) (s : State) : (s.goProc p).run = s.run := rfl
@[simp] theorem State.goProc_err (p : Proc) (s : State) : (s.goProc p).err = s.err := rfl
@[simp] theorem State.goProc_out (p : Proc) (s : State) : (s.goProc p).out = s.out := rfl
@[simp] theorem State.goProc_rsaWin (p : Proc) (s : State) : (s.goProc p).rsaWin = s.rsaWin := rfl
@[simp] theorem State.goProc_shaWin (p : Proc) (s : State) : (s.goProc p).shaWin = s.shaWin := rfl
@[simp] theorem State.goProc_stage (p : Proc) (s : State) : (s.goProc p).stage = s.stage := rfl
@[simp] theorem State.goProc_env (p : Proc) (s : State) : (s.goProc p).env = s.env := rfl

/-! `goPhase` -/
@[simp] theorem State.goPhase_cfg (p : Phase) (s : State) : (s.goPhase p).cfg = s.cfg := rfl
@[simp] theorem State.goPhase_port (p : Phase) (s : State) : (s.goPhase p).port = s.port := rfl
@[simp] theorem State.goPhase_seq (p : Phase) (s : State) : (s.goPhase p).seq = { s.seq with phase := p } := rfl
@[simp] theorem State.goPhase_rsa (p : Phase) (s : State) : (s.goPhase p).rsa = s.rsa := rfl
@[simp] theorem State.goPhase_sha (p : Phase) (s : State) : (s.goPhase p).sha = s.sha := rfl
@[simp] theorem State.goPhase_book (p : Phase) (s : State) : (s.goPhase p).book = s.book := rfl
@[simp] theorem State.goPhase_ses (p : Phase) (s : State) : (s.goPhase p).ses = s.ses := rfl
@[simp] theorem State.goPhase_run (p : Phase) (s : State) : (s.goPhase p).run = s.run := rfl
@[simp] theorem State.goPhase_err (p : Phase) (s : State) : (s.goPhase p).err = s.err := rfl
@[simp] theorem State.goPhase_out (p : Phase) (s : State) : (s.goPhase p).out = s.out := rfl
@[simp] theorem State.goPhase_rsaWin (p : Phase) (s : State) : (s.goPhase p).rsaWin = s.rsaWin := rfl
@[simp] theorem State.goPhase_shaWin (p : Phase) (s : State) : (s.goPhase p).shaWin = s.shaWin := rfl
@[simp] theorem State.goPhase_stage (p : Phase) (s : State) : (s.goPhase p).stage = s.stage := rfl
@[simp] theorem State.goPhase_env (p : Phase) (s : State) : (s.goPhase p).env = s.env := rfl

/-! `goSess` -/
@[simp] theorem State.goSess_cfg (x : SessState) (s : State) : (s.goSess x).cfg = s.cfg := rfl
@[simp] theorem State.goSess_port (x : SessState) (s : State) : (s.goSess x).port = s.port := rfl
@[simp] theorem State.goSess_seq (x : SessState) (s : State) :
    (s.goSess x).seq =
      { s.seq with sess := x, phase := .start } := rfl
@[simp] theorem State.goSess_rsa (x : SessState) (s : State) : (s.goSess x).rsa = s.rsa := rfl
@[simp] theorem State.goSess_sha (x : SessState) (s : State) : (s.goSess x).sha = s.sha := rfl
@[simp] theorem State.goSess_book (x : SessState) (s : State) : (s.goSess x).book = s.book := rfl
@[simp] theorem State.goSess_ses (x : SessState) (s : State) : (s.goSess x).ses = s.ses := rfl
@[simp] theorem State.goSess_run (x : SessState) (s : State) : (s.goSess x).run = s.run := rfl
@[simp] theorem State.goSess_err (x : SessState) (s : State) : (s.goSess x).err = s.err := rfl
@[simp] theorem State.goSess_out (x : SessState) (s : State) : (s.goSess x).out = s.out := rfl
@[simp] theorem State.goSess_rsaWin (x : SessState) (s : State) : (s.goSess x).rsaWin = s.rsaWin := rfl
@[simp] theorem State.goSess_shaWin (x : SessState) (s : State) : (s.goSess x).shaWin = s.shaWin := rfl
@[simp] theorem State.goSess_stage (x : SessState) (s : State) : (s.goSess x).stage = s.stage := rfl
@[simp] theorem State.goSess_env (x : SessState) (s : State) : (s.goSess x).env = s.env := rfl

/-! `goRun` -/
@[simp] theorem State.goRun_cfg (r : RunState) (s : State) : (s.goRun r).cfg = s.cfg := rfl
@[simp] theorem State.goRun_port (r : RunState) (s : State) : (s.goRun r).port = s.port := rfl
@[simp] theorem State.goRun_seq (r : RunState) (s : State) : (s.goRun r).seq = { s.seq with run := r } := rfl
@[simp] theorem State.goRun_rsa (r : RunState) (s : State) : (s.goRun r).rsa = s.rsa := rfl
@[simp] theorem State.goRun_sha (r : RunState) (s : State) : (s.goRun r).sha = s.sha := rfl
@[simp] theorem State.goRun_book (r : RunState) (s : State) : (s.goRun r).book = s.book := rfl
@[simp] theorem State.goRun_ses (r : RunState) (s : State) : (s.goRun r).ses = s.ses := rfl
@[simp] theorem State.goRun_run (r : RunState) (s : State) : (s.goRun r).run = s.run := rfl
@[simp] theorem State.goRun_err (r : RunState) (s : State) : (s.goRun r).err = s.err := rfl
@[simp] theorem State.goRun_out (r : RunState) (s : State) : (s.goRun r).out = s.out := rfl
@[simp] theorem State.goRun_rsaWin (r : RunState) (s : State) : (s.goRun r).rsaWin = s.rsaWin := rfl
@[simp] theorem State.goRun_shaWin (r : RunState) (s : State) : (s.goRun r).shaWin = s.shaWin := rfl
@[simp] theorem State.goRun_stage (r : RunState) (s : State) : (s.goRun r).stage = s.stage := rfl
@[simp] theorem State.goRun_env (r : RunState) (s : State) : (s.goRun r).env = s.env := rfl

/-! `setDirty` -/
@[simp] theorem State.setDirty_cfg (b : Bool) (s : State) : (s.setDirty b).cfg = s.cfg := rfl
@[simp] theorem State.setDirty_port (b : Bool) (s : State) : (s.setDirty b).port = s.port := rfl
@[simp] theorem State.setDirty_seq (b : Bool) (s : State) : (s.setDirty b).seq = s.seq := rfl
@[simp] theorem State.setDirty_rsa (b : Bool) (s : State) : (s.setDirty b).rsa = s.rsa := rfl
@[simp] theorem State.setDirty_sha (b : Bool) (s : State) : (s.setDirty b).sha = s.sha := rfl
@[simp] theorem State.setDirty_book (b : Bool) (s : State) :
    (s.setDirty b).book =
      { s.book with shaDirty := b } := rfl
@[simp] theorem State.setDirty_ses (b : Bool) (s : State) : (s.setDirty b).ses = s.ses := rfl
@[simp] theorem State.setDirty_run (b : Bool) (s : State) : (s.setDirty b).run = s.run := rfl
@[simp] theorem State.setDirty_err (b : Bool) (s : State) : (s.setDirty b).err = s.err := rfl
@[simp] theorem State.setDirty_out (b : Bool) (s : State) : (s.setDirty b).out = s.out := rfl
@[simp] theorem State.setDirty_rsaWin (b : Bool) (s : State) : (s.setDirty b).rsaWin = s.rsaWin := rfl
@[simp] theorem State.setDirty_shaWin (b : Bool) (s : State) : (s.setDirty b).shaWin = s.shaWin := rfl
@[simp] theorem State.setDirty_stage (b : Bool) (s : State) : (s.setDirty b).stage = s.stage := rfl
@[simp] theorem State.setDirty_env (b : Bool) (s : State) : (s.setDirty b).env = s.env := rfl

/-! `accept` -/
@[simp] theorem State.accept_cfg (w : Word) (a : Bytes) (s : State) : (s.accept w a).cfg = s.cfg := rfl
@[simp] theorem State.accept_port (w : Word) (a : Bytes) (s : State) :
    (s.accept w a).port =
      { busy := true, cmd := w, argData := a, resStatus := .none, resData := [] } := rfl
@[simp] theorem State.accept_seq (w : Word) (a : Bytes) (s : State) : (s.accept w a).seq = s.seq := rfl
@[simp] theorem State.accept_rsa (w : Word) (a : Bytes) (s : State) : (s.accept w a).rsa = s.rsa := rfl
@[simp] theorem State.accept_sha (w : Word) (a : Bytes) (s : State) : (s.accept w a).sha = s.sha := rfl
@[simp] theorem State.accept_book (w : Word) (a : Bytes) (s : State) : (s.accept w a).book = s.book := rfl
@[simp] theorem State.accept_ses (w : Word) (a : Bytes) (s : State) : (s.accept w a).ses = s.ses := rfl
@[simp] theorem State.accept_run (w : Word) (a : Bytes) (s : State) : (s.accept w a).run = s.run := rfl
@[simp] theorem State.accept_err (w : Word) (a : Bytes) (s : State) : (s.accept w a).err = ErrRec.clear := rfl
@[simp] theorem State.accept_out (w : Word) (a : Bytes) (s : State) :
    (s.accept w a).out =
      { s.out with ready := false } := rfl
@[simp] theorem State.accept_rsaWin (w : Word) (a : Bytes) (s : State) : (s.accept w a).rsaWin = s.rsaWin := rfl
@[simp] theorem State.accept_shaWin (w : Word) (a : Bytes) (s : State) : (s.accept w a).shaWin = s.shaWin := rfl
@[simp] theorem State.accept_stage (w : Word) (a : Bytes) (s : State) : (s.accept w a).stage = s.stage := rfl
@[simp] theorem State.accept_env (w : Word) (a : Bytes) (s : State) :
    (s.accept w a).env =
      { s.env with program := s.env.program.tail } := rfl

/-! `complete` -/
@[simp] theorem State.complete_cfg (st : ResStatus) (d : Bytes) (s : State) : (s.complete st d).cfg = s.cfg := rfl
@[simp] theorem State.complete_port (st : ResStatus) (d : Bytes) (s : State) :
    (s.complete st d).port =
      { s.port with busy := false, resStatus := st, resData := d } := rfl
@[simp] theorem State.complete_seq (st : ResStatus) (d : Bytes) (s : State) :
    (s.complete st d).seq =
      { s.seq with sess := .noSession, proc := .idle, phase := .start } := rfl
@[simp] theorem State.complete_rsa (st : ResStatus) (d : Bytes) (s : State) :
    (s.complete st d).rsa =
      { s.rsa with filling := false } := rfl
@[simp] theorem State.complete_sha (st : ResStatus) (d : Bytes) (s : State) : (s.complete st d).sha = s.sha := rfl
@[simp] theorem State.complete_book (st : ResStatus) (d : Bytes) (s : State) : (s.complete st d).book = s.book := rfl
@[simp] theorem State.complete_ses (st : ResStatus) (d : Bytes) (s : State) : (s.complete st d).ses = s.ses := rfl
@[simp] theorem State.complete_run (st : ResStatus) (d : Bytes) (s : State) : (s.complete st d).run = s.run := rfl
@[simp] theorem State.complete_err (st : ResStatus) (d : Bytes) (s : State) : (s.complete st d).err = s.err := rfl
@[simp] theorem State.complete_out (st : ResStatus) (d : Bytes) (s : State) : (s.complete st d).out = s.out := rfl
@[simp] theorem State.complete_rsaWin (st : ResStatus) (d : Bytes) (s : State) :
    (s.complete st d).rsaWin =
      s.rsaWin := rfl
@[simp] theorem State.complete_shaWin (st : ResStatus) (d : Bytes) (s : State) :
    (s.complete st d).shaWin =
      s.shaWin := rfl
@[simp] theorem State.complete_stage (st : ResStatus) (d : Bytes) (s : State) :
    (s.complete st d).stage =
      s.stage := rfl
@[simp] theorem State.complete_env (st : ResStatus) (d : Bytes) (s : State) : (s.complete st d).env = s.env := rfl

/-! `tookRsaStatus` -/
@[simp] theorem State.tookRsaStatus_cfg (s : State) : (s.tookRsaStatus).cfg = s.cfg := rfl
@[simp] theorem State.tookRsaStatus_port (s : State) : (s.tookRsaStatus).port = s.port := rfl
@[simp] theorem State.tookRsaStatus_seq (s : State) : (s.tookRsaStatus).seq = s.seq := rfl
@[simp] theorem State.tookRsaStatus_rsa (s : State) : (s.tookRsaStatus).rsa = s.rsa := rfl
@[simp] theorem State.tookRsaStatus_sha (s : State) : (s.tookRsaStatus).sha = s.sha := rfl
@[simp] theorem State.tookRsaStatus_book (s : State) : (s.tookRsaStatus).book = s.book := rfl
@[simp] theorem State.tookRsaStatus_ses (s : State) : (s.tookRsaStatus).ses = s.ses := rfl
@[simp] theorem State.tookRsaStatus_run (s : State) : (s.tookRsaStatus).run = s.run := rfl
@[simp] theorem State.tookRsaStatus_err (s : State) : (s.tookRsaStatus).err = s.err := rfl
@[simp] theorem State.tookRsaStatus_out (s : State) : (s.tookRsaStatus).out = s.out := rfl
@[simp] theorem State.tookRsaStatus_rsaWin (s : State) : (s.tookRsaStatus).rsaWin = s.rsaWin := rfl
@[simp] theorem State.tookRsaStatus_shaWin (s : State) : (s.tookRsaStatus).shaWin = s.shaWin := rfl
@[simp] theorem State.tookRsaStatus_stage (s : State) : (s.tookRsaStatus).stage = s.stage := rfl
@[simp] theorem State.tookRsaStatus_env (s : State) :
    (s.tookRsaStatus).env =
      { s.env with rsaStatus := s.env.rsaStatus.tail, draws := s.env.draws + 1 } := rfl

/-! `tookShaReady` -/
@[simp] theorem State.tookShaReady_cfg (s : State) : (s.tookShaReady).cfg = s.cfg := rfl
@[simp] theorem State.tookShaReady_port (s : State) : (s.tookShaReady).port = s.port := rfl
@[simp] theorem State.tookShaReady_seq (s : State) : (s.tookShaReady).seq = s.seq := rfl
@[simp] theorem State.tookShaReady_rsa (s : State) : (s.tookShaReady).rsa = s.rsa := rfl
@[simp] theorem State.tookShaReady_sha (s : State) : (s.tookShaReady).sha = s.sha := rfl
@[simp] theorem State.tookShaReady_book (s : State) : (s.tookShaReady).book = s.book := rfl
@[simp] theorem State.tookShaReady_ses (s : State) : (s.tookShaReady).ses = s.ses := rfl
@[simp] theorem State.tookShaReady_run (s : State) : (s.tookShaReady).run = s.run := rfl
@[simp] theorem State.tookShaReady_err (s : State) : (s.tookShaReady).err = s.err := rfl
@[simp] theorem State.tookShaReady_out (s : State) : (s.tookShaReady).out = s.out := rfl
@[simp] theorem State.tookShaReady_rsaWin (s : State) : (s.tookShaReady).rsaWin = s.rsaWin := rfl
@[simp] theorem State.tookShaReady_shaWin (s : State) : (s.tookShaReady).shaWin = s.shaWin := rfl
@[simp] theorem State.tookShaReady_stage (s : State) : (s.tookShaReady).stage = s.stage := rfl
@[simp] theorem State.tookShaReady_env (s : State) :
    (s.tookShaReady).env =
      { s.env with shaReady := s.env.shaReady.tail, draws := s.env.draws + 1 } := rfl

/-! `tookFiller` -/
@[simp] theorem State.tookFiller_cfg (s : State) : (s.tookFiller).cfg = s.cfg := rfl
@[simp] theorem State.tookFiller_port (s : State) : (s.tookFiller).port = s.port := rfl
@[simp] theorem State.tookFiller_seq (s : State) : (s.tookFiller).seq = s.seq := rfl
@[simp] theorem State.tookFiller_rsa (s : State) : (s.tookFiller).rsa = s.rsa := rfl
@[simp] theorem State.tookFiller_sha (s : State) : (s.tookFiller).sha = s.sha := rfl
@[simp] theorem State.tookFiller_book (s : State) : (s.tookFiller).book = s.book := rfl
@[simp] theorem State.tookFiller_ses (s : State) : (s.tookFiller).ses = s.ses := rfl
@[simp] theorem State.tookFiller_run (s : State) : (s.tookFiller).run = s.run := rfl
@[simp] theorem State.tookFiller_err (s : State) : (s.tookFiller).err = s.err := rfl
@[simp] theorem State.tookFiller_out (s : State) : (s.tookFiller).out = s.out := rfl
@[simp] theorem State.tookFiller_rsaWin (s : State) : (s.tookFiller).rsaWin = s.rsaWin := rfl
@[simp] theorem State.tookFiller_shaWin (s : State) : (s.tookFiller).shaWin = s.shaWin := rfl
@[simp] theorem State.tookFiller_stage (s : State) : (s.tookFiller).stage = s.stage := rfl
@[simp] theorem State.tookFiller_env (s : State) :
    (s.tookFiller).env =
      { s.env with filler := s.env.filler.tail, draws := s.env.draws + 1 } := rfl

/-! `tookNonce` -/
@[simp] theorem State.tookNonce_cfg (s : State) : (s.tookNonce).cfg = s.cfg := rfl
@[simp] theorem State.tookNonce_port (s : State) : (s.tookNonce).port = s.port := rfl
@[simp] theorem State.tookNonce_seq (s : State) : (s.tookNonce).seq = s.seq := rfl
@[simp] theorem State.tookNonce_rsa (s : State) : (s.tookNonce).rsa = s.rsa := rfl
@[simp] theorem State.tookNonce_sha (s : State) : (s.tookNonce).sha = s.sha := rfl
@[simp] theorem State.tookNonce_book (s : State) : (s.tookNonce).book = s.book := rfl
@[simp] theorem State.tookNonce_ses (s : State) : (s.tookNonce).ses = s.ses := rfl
@[simp] theorem State.tookNonce_run (s : State) : (s.tookNonce).run = s.run := rfl
@[simp] theorem State.tookNonce_err (s : State) : (s.tookNonce).err = s.err := rfl
@[simp] theorem State.tookNonce_out (s : State) : (s.tookNonce).out = s.out := rfl
@[simp] theorem State.tookNonce_rsaWin (s : State) : (s.tookNonce).rsaWin = s.rsaWin := rfl
@[simp] theorem State.tookNonce_shaWin (s : State) : (s.tookNonce).shaWin = s.shaWin := rfl
@[simp] theorem State.tookNonce_stage (s : State) : (s.tookNonce).stage = s.stage := rfl
@[simp] theorem State.tookNonce_env (s : State) :
    (s.tookNonce).env =
      { s.env with nonce := s.env.nonce.tail, draws := s.env.draws + 1 } := rfl

/-! `tookRecv` -/
@[simp] theorem State.tookRecv_cfg (r : Bytes) (s : State) : (s.tookRecv r).cfg = s.cfg := rfl
@[simp] theorem State.tookRecv_port (r : Bytes) (s : State) : (s.tookRecv r).port = s.port := rfl
@[simp] theorem State.tookRecv_seq (r : Bytes) (s : State) : (s.tookRecv r).seq = s.seq := rfl
@[simp] theorem State.tookRecv_rsa (r : Bytes) (s : State) : (s.tookRecv r).rsa = s.rsa := rfl
@[simp] theorem State.tookRecv_sha (r : Bytes) (s : State) : (s.tookRecv r).sha = s.sha := rfl
@[simp] theorem State.tookRecv_book (r : Bytes) (s : State) : (s.tookRecv r).book = s.book := rfl
@[simp] theorem State.tookRecv_ses (r : Bytes) (s : State) : (s.tookRecv r).ses = s.ses := rfl
@[simp] theorem State.tookRecv_run (r : Bytes) (s : State) : (s.tookRecv r).run = s.run := rfl
@[simp] theorem State.tookRecv_err (r : Bytes) (s : State) : (s.tookRecv r).err = s.err := rfl
@[simp] theorem State.tookRecv_out (r : Bytes) (s : State) : (s.tookRecv r).out = s.out := rfl
@[simp] theorem State.tookRecv_rsaWin (r : Bytes) (s : State) : (s.tookRecv r).rsaWin = s.rsaWin := rfl
@[simp] theorem State.tookRecv_shaWin (r : Bytes) (s : State) : (s.tookRecv r).shaWin = s.shaWin := rfl
@[simp] theorem State.tookRecv_stage (r : Bytes) (s : State) : (s.tookRecv r).stage = s.stage := rfl
@[simp] theorem State.tookRecv_env (r : Bytes) (s : State) :
    (s.tookRecv r).env =
      { s.env with recv := if r.isEmpty then s.env.recv.tail else .data r :: s.env.recv.tail, draws := s.env.draws + 1 } := rfl

/-! `tookSend` -/
@[simp] theorem State.tookSend_cfg (o : List Bytes) (s : State) : (s.tookSend o).cfg = s.cfg := rfl
@[simp] theorem State.tookSend_port (o : List Bytes) (s : State) : (s.tookSend o).port = s.port := rfl
@[simp] theorem State.tookSend_seq (o : List Bytes) (s : State) : (s.tookSend o).seq = s.seq := rfl
@[simp] theorem State.tookSend_rsa (o : List Bytes) (s : State) : (s.tookSend o).rsa = s.rsa := rfl
@[simp] theorem State.tookSend_sha (o : List Bytes) (s : State) : (s.tookSend o).sha = s.sha := rfl
@[simp] theorem State.tookSend_book (o : List Bytes) (s : State) : (s.tookSend o).book = s.book := rfl
@[simp] theorem State.tookSend_ses (o : List Bytes) (s : State) : (s.tookSend o).ses = s.ses := rfl
@[simp] theorem State.tookSend_run (o : List Bytes) (s : State) : (s.tookSend o).run = s.run := rfl
@[simp] theorem State.tookSend_err (o : List Bytes) (s : State) : (s.tookSend o).err = s.err := rfl
@[simp] theorem State.tookSend_out (o : List Bytes) (s : State) : (s.tookSend o).out = s.out := rfl
@[simp] theorem State.tookSend_rsaWin (o : List Bytes) (s : State) : (s.tookSend o).rsaWin = s.rsaWin := rfl
@[simp] theorem State.tookSend_shaWin (o : List Bytes) (s : State) : (s.tookSend o).shaWin = s.shaWin := rfl
@[simp] theorem State.tookSend_stage (o : List Bytes) (s : State) : (s.tookSend o).stage = s.stage := rfl
@[simp] theorem State.tookSend_env (o : List Bytes) (s : State) :
    (s.tookSend o).env =
      { s.env with send := s.env.send.tail, draws := s.env.draws + 1, sent := s.env.sent ++ o } := rfl

/-! `winRsaData` -/
@[simp] theorem State.winRsaData_cfg (i : Fin 16) (v : Word) (s : State) : (s.winRsaData i v).cfg = s.cfg := rfl
@[simp] theorem State.winRsaData_port (i : Fin 16) (v : Word) (s : State) : (s.winRsaData i v).port = s.port := rfl
@[simp] theorem State.winRsaData_seq (i : Fin 16) (v : Word) (s : State) : (s.winRsaData i v).seq = s.seq := rfl
@[simp] theorem State.winRsaData_rsa (i : Fin 16) (v : Word) (s : State) : (s.winRsaData i v).rsa = s.rsa := rfl
@[simp] theorem State.winRsaData_sha (i : Fin 16) (v : Word) (s : State) : (s.winRsaData i v).sha = s.sha := rfl
@[simp] theorem State.winRsaData_book (i : Fin 16) (v : Word) (s : State) : (s.winRsaData i v).book = s.book := rfl
@[simp] theorem State.winRsaData_ses (i : Fin 16) (v : Word) (s : State) : (s.winRsaData i v).ses = s.ses := rfl
@[simp] theorem State.winRsaData_run (i : Fin 16) (v : Word) (s : State) : (s.winRsaData i v).run = s.run := rfl
@[simp] theorem State.winRsaData_err (i : Fin 16) (v : Word) (s : State) : (s.winRsaData i v).err = s.err := rfl
@[simp] theorem State.winRsaData_out (i : Fin 16) (v : Word) (s : State) : (s.winRsaData i v).out = s.out := rfl
@[simp] theorem State.winRsaData_rsaWin (i : Fin 16) (v : Word) (s : State) :
    (s.winRsaData i v).rsaWin =
      { s.rsaWin with din := blockSet s.rsaWin.din i v } := rfl
@[simp] theorem State.winRsaData_shaWin (i : Fin 16) (v : Word) (s : State) :
    (s.winRsaData i v).shaWin =
      s.shaWin := rfl
@[simp] theorem State.winRsaData_stage (i : Fin 16) (v : Word) (s : State) : (s.winRsaData i v).stage = s.stage := rfl
@[simp] theorem State.winRsaData_env (i : Fin 16) (v : Word) (s : State) : (s.winRsaData i v).env = s.env := rfl

/-! `winRsaKeysel` -/
@[simp] theorem State.winRsaKeysel_cfg (v : Word) (s : State) : (s.winRsaKeysel v).cfg = s.cfg := rfl
@[simp] theorem State.winRsaKeysel_port (v : Word) (s : State) : (s.winRsaKeysel v).port = s.port := rfl
@[simp] theorem State.winRsaKeysel_seq (v : Word) (s : State) : (s.winRsaKeysel v).seq = s.seq := rfl
@[simp] theorem State.winRsaKeysel_rsa (v : Word) (s : State) : (s.winRsaKeysel v).rsa = s.rsa := rfl
@[simp] theorem State.winRsaKeysel_sha (v : Word) (s : State) : (s.winRsaKeysel v).sha = s.sha := rfl
@[simp] theorem State.winRsaKeysel_book (v : Word) (s : State) : (s.winRsaKeysel v).book = s.book := rfl
@[simp] theorem State.winRsaKeysel_ses (v : Word) (s : State) : (s.winRsaKeysel v).ses = s.ses := rfl
@[simp] theorem State.winRsaKeysel_run (v : Word) (s : State) : (s.winRsaKeysel v).run = s.run := rfl
@[simp] theorem State.winRsaKeysel_err (v : Word) (s : State) : (s.winRsaKeysel v).err = s.err := rfl
@[simp] theorem State.winRsaKeysel_out (v : Word) (s : State) : (s.winRsaKeysel v).out = s.out := rfl
@[simp] theorem State.winRsaKeysel_rsaWin (v : Word) (s : State) :
    (s.winRsaKeysel v).rsaWin =
      { s.rsaWin with keysel := v } := rfl
@[simp] theorem State.winRsaKeysel_shaWin (v : Word) (s : State) : (s.winRsaKeysel v).shaWin = s.shaWin := rfl
@[simp] theorem State.winRsaKeysel_stage (v : Word) (s : State) : (s.winRsaKeysel v).stage = s.stage := rfl
@[simp] theorem State.winRsaKeysel_env (v : Word) (s : State) : (s.winRsaKeysel v).env = s.env := rfl

/-! `winRsaStart` -/
@[simp] theorem State.winRsaStart_cfg (v : Word) (s : State) : (s.winRsaStart v).cfg = s.cfg := rfl
@[simp] theorem State.winRsaStart_port (v : Word) (s : State) : (s.winRsaStart v).port = s.port := rfl
@[simp] theorem State.winRsaStart_seq (v : Word) (s : State) : (s.winRsaStart v).seq = s.seq := rfl
@[simp] theorem State.winRsaStart_rsa (v : Word) (s : State) : (s.winRsaStart v).rsa = s.rsa := rfl
@[simp] theorem State.winRsaStart_sha (v : Word) (s : State) : (s.winRsaStart v).sha = s.sha := rfl
@[simp] theorem State.winRsaStart_book (v : Word) (s : State) : (s.winRsaStart v).book = s.book := rfl
@[simp] theorem State.winRsaStart_ses (v : Word) (s : State) : (s.winRsaStart v).ses = s.ses := rfl
@[simp] theorem State.winRsaStart_run (v : Word) (s : State) : (s.winRsaStart v).run = s.run := rfl
@[simp] theorem State.winRsaStart_err (v : Word) (s : State) : (s.winRsaStart v).err = s.err := rfl
@[simp] theorem State.winRsaStart_out (v : Word) (s : State) : (s.winRsaStart v).out = s.out := rfl
@[simp] theorem State.winRsaStart_rsaWin (v : Word) (s : State) :
    (s.winRsaStart v).rsaWin =
      { s.rsaWin with start := v, dout := s.rsaResultBlock } := rfl
@[simp] theorem State.winRsaStart_shaWin (v : Word) (s : State) : (s.winRsaStart v).shaWin = s.shaWin := rfl
@[simp] theorem State.winRsaStart_stage (v : Word) (s : State) : (s.winRsaStart v).stage = s.stage := rfl
@[simp] theorem State.winRsaStart_env (v : Word) (s : State) :
    (s.winRsaStart v).env =
      { s.env with rsaResult := s.env.rsaResult.tail, draws := s.env.draws + 1 } := rfl

/-! `winShaReset` -/
@[simp] theorem State.winShaReset_cfg (v : Word) (s : State) : (s.winShaReset v).cfg = s.cfg := rfl
@[simp] theorem State.winShaReset_port (v : Word) (s : State) : (s.winShaReset v).port = s.port := rfl
@[simp] theorem State.winShaReset_seq (v : Word) (s : State) : (s.winShaReset v).seq = s.seq := rfl
@[simp] theorem State.winShaReset_rsa (v : Word) (s : State) : (s.winShaReset v).rsa = s.rsa := rfl
@[simp] theorem State.winShaReset_sha (v : Word) (s : State) : (s.winShaReset v).sha = s.sha := rfl
@[simp] theorem State.winShaReset_book (v : Word) (s : State) : (s.winShaReset v).book = s.book := rfl
@[simp] theorem State.winShaReset_ses (v : Word) (s : State) : (s.winShaReset v).ses = s.ses := rfl
@[simp] theorem State.winShaReset_run (v : Word) (s : State) : (s.winShaReset v).run = s.run := rfl
@[simp] theorem State.winShaReset_err (v : Word) (s : State) : (s.winShaReset v).err = s.err := rfl
@[simp] theorem State.winShaReset_out (v : Word) (s : State) : (s.winShaReset v).out = s.out := rfl
@[simp] theorem State.winShaReset_rsaWin (v : Word) (s : State) : (s.winShaReset v).rsaWin = s.rsaWin := rfl
@[simp] theorem State.winShaReset_shaWin (v : Word) (s : State) :
    (s.winShaReset v).shaWin =
      { s.shaWin with resetReg := v, fifo := [], ptr := 0, digest := Config.freeDigestCleared s.env.draws } := rfl
@[simp] theorem State.winShaReset_stage (v : Word) (s : State) : (s.winShaReset v).stage = s.stage := rfl
@[simp] theorem State.winShaReset_env (v : Word) (s : State) :
    (s.winShaReset v).env = { s.env with draws := s.env.draws + 1 } := rfl

/-! `winShaFifo` -/
@[simp] theorem State.winShaFifo_cfg (v : Word) (s : State) : (s.winShaFifo v).cfg = s.cfg := rfl
@[simp] theorem State.winShaFifo_port (v : Word) (s : State) : (s.winShaFifo v).port = s.port := rfl
@[simp] theorem State.winShaFifo_seq (v : Word) (s : State) : (s.winShaFifo v).seq = s.seq := rfl
@[simp] theorem State.winShaFifo_rsa (v : Word) (s : State) : (s.winShaFifo v).rsa = s.rsa := rfl
@[simp] theorem State.winShaFifo_sha (v : Word) (s : State) : (s.winShaFifo v).sha = s.sha := rfl
@[simp] theorem State.winShaFifo_book (v : Word) (s : State) : (s.winShaFifo v).book = s.book := rfl
@[simp] theorem State.winShaFifo_ses (v : Word) (s : State) : (s.winShaFifo v).ses = s.ses := rfl
@[simp] theorem State.winShaFifo_run (v : Word) (s : State) : (s.winShaFifo v).run = s.run := rfl
@[simp] theorem State.winShaFifo_err (v : Word) (s : State) : (s.winShaFifo v).err = s.err := rfl
@[simp] theorem State.winShaFifo_out (v : Word) (s : State) : (s.winShaFifo v).out = s.out := rfl
@[simp] theorem State.winShaFifo_rsaWin (v : Word) (s : State) : (s.winShaFifo v).rsaWin = s.rsaWin := rfl
@[simp] theorem State.winShaFifo_shaWin (v : Word) (s : State) :
    (s.winShaFifo v).shaWin =
      { s.shaWin with fifo := s.shaWin.fifo ++ [v] } := rfl
@[simp] theorem State.winShaFifo_stage (v : Word) (s : State) : (s.winShaFifo v).stage = s.stage := rfl
@[simp] theorem State.winShaFifo_env (v : Word) (s : State) : (s.winShaFifo v).env = s.env := rfl

/-! `winShaStart` -/
@[simp] theorem State.winShaStart_cfg (v : Word) (s : State) : (s.winShaStart v).cfg = s.cfg := rfl
@[simp] theorem State.winShaStart_port (v : Word) (s : State) : (s.winShaStart v).port = s.port := rfl
@[simp] theorem State.winShaStart_seq (v : Word) (s : State) : (s.winShaStart v).seq = s.seq := rfl
@[simp] theorem State.winShaStart_rsa (v : Word) (s : State) : (s.winShaStart v).rsa = s.rsa := rfl
@[simp] theorem State.winShaStart_sha (v : Word) (s : State) : (s.winShaStart v).sha = s.sha := rfl
@[simp] theorem State.winShaStart_book (v : Word) (s : State) : (s.winShaStart v).book = s.book := rfl
@[simp] theorem State.winShaStart_ses (v : Word) (s : State) : (s.winShaStart v).ses = s.ses := rfl
@[simp] theorem State.winShaStart_run (v : Word) (s : State) : (s.winShaStart v).run = s.run := rfl
@[simp] theorem State.winShaStart_err (v : Word) (s : State) : (s.winShaStart v).err = s.err := rfl
@[simp] theorem State.winShaStart_out (v : Word) (s : State) : (s.winShaStart v).out = s.out := rfl
@[simp] theorem State.winShaStart_rsaWin (v : Word) (s : State) : (s.winShaStart v).rsaWin = s.rsaWin := rfl
@[simp] theorem State.winShaStart_shaWin (v : Word) (s : State) :
    (s.winShaStart v).shaWin =
      { s.shaWin with start := v, digest := s.shaDigestBlock } := rfl
@[simp] theorem State.winShaStart_stage (v : Word) (s : State) : (s.winShaStart v).stage = s.stage := rfl
@[simp] theorem State.winShaStart_env (v : Word) (s : State) :
    (s.winShaStart v).env =
      { s.env with shaDigest := s.env.shaDigest.tail, draws := s.env.draws + 1 } := rfl

/-! `tookDigest` -/
@[simp] theorem State.tookDigest_cfg (s : State) : (s.tookDigest).cfg = s.cfg := rfl
@[simp] theorem State.tookDigest_port (s : State) : (s.tookDigest).port = s.port := rfl
@[simp] theorem State.tookDigest_seq (s : State) : (s.tookDigest).seq = s.seq := rfl
@[simp] theorem State.tookDigest_rsa (s : State) : (s.tookDigest).rsa = s.rsa := rfl
@[simp] theorem State.tookDigest_sha (s : State) : (s.tookDigest).sha = s.sha := rfl
@[simp] theorem State.tookDigest_book (s : State) : (s.tookDigest).book = s.book := rfl
@[simp] theorem State.tookDigest_ses (s : State) : (s.tookDigest).ses = s.ses := rfl
@[simp] theorem State.tookDigest_run (s : State) : (s.tookDigest).run = s.run := rfl
@[simp] theorem State.tookDigest_err (s : State) : (s.tookDigest).err = s.err := rfl
@[simp] theorem State.tookDigest_out (s : State) : (s.tookDigest).out = s.out := rfl
@[simp] theorem State.tookDigest_rsaWin (s : State) : (s.tookDigest).rsaWin = s.rsaWin := rfl
@[simp] theorem State.tookDigest_shaWin (s : State) :
    (s.tookDigest).shaWin =
      { s.shaWin with ptr := s.shaWin.ptr + 1 } := rfl
@[simp] theorem State.tookDigest_stage (s : State) : (s.tookDigest).stage = s.stage := rfl
@[simp] theorem State.tookDigest_env (s : State) : (s.tookDigest).env = s.env := rfl

/-! `stageWrite` -/
@[simp] theorem State.stageWrite_cfg (off : Nat) (b : Bytes) (s : State) : (s.stageWrite off b).cfg = s.cfg := rfl
@[simp] theorem State.stageWrite_port (off : Nat) (b : Bytes) (s : State) : (s.stageWrite off b).port = s.port := rfl
@[simp] theorem State.stageWrite_seq (off : Nat) (b : Bytes) (s : State) : (s.stageWrite off b).seq = s.seq := rfl
@[simp] theorem State.stageWrite_rsa (off : Nat) (b : Bytes) (s : State) : (s.stageWrite off b).rsa = s.rsa := rfl
@[simp] theorem State.stageWrite_sha (off : Nat) (b : Bytes) (s : State) : (s.stageWrite off b).sha = s.sha := rfl
@[simp] theorem State.stageWrite_book (off : Nat) (b : Bytes) (s : State) : (s.stageWrite off b).book = s.book := rfl
@[simp] theorem State.stageWrite_ses (off : Nat) (b : Bytes) (s : State) : (s.stageWrite off b).ses = s.ses := rfl
@[simp] theorem State.stageWrite_run (off : Nat) (b : Bytes) (s : State) : (s.stageWrite off b).run = s.run := rfl
@[simp] theorem State.stageWrite_err (off : Nat) (b : Bytes) (s : State) : (s.stageWrite off b).err = s.err := rfl
@[simp] theorem State.stageWrite_out (off : Nat) (b : Bytes) (s : State) : (s.stageWrite off b).out = s.out := rfl
@[simp] theorem State.stageWrite_rsaWin (off : Nat) (b : Bytes) (s : State) :
    (s.stageWrite off b).rsaWin =
      s.rsaWin := rfl
@[simp] theorem State.stageWrite_shaWin (off : Nat) (b : Bytes) (s : State) :
    (s.stageWrite off b).shaWin =
      s.shaWin := rfl
@[simp] theorem State.stageWrite_stage (off : Nat) (b : Bytes) (s : State) :
    (s.stageWrite off b).stage =
      Memory.storeBytes s.stage off b := rfl
@[simp] theorem State.stageWrite_env (off : Nat) (b : Bytes) (s : State) : (s.stageWrite off b).env = s.env := rfl

/-! `loadBlock` -/
@[simp] theorem State.loadBlock_cfg (b : Bytes) (s : State) : (s.loadBlock b).cfg = s.cfg := rfl
@[simp] theorem State.loadBlock_port (b : Bytes) (s : State) : (s.loadBlock b).port = s.port := rfl
@[simp] theorem State.loadBlock_seq (b : Bytes) (s : State) :
    (s.loadBlock b).seq =
      { s.seq with proc := .rsaWrData 0 } := rfl
@[simp] theorem State.loadBlock_rsa (b : Bytes) (s : State) :
    (s.loadBlock b).rsa =
      { s.rsa with inp := blockOfBytes b, filling := false } := rfl
@[simp] theorem State.loadBlock_sha (b : Bytes) (s : State) : (s.loadBlock b).sha = s.sha := rfl
@[simp] theorem State.loadBlock_book (b : Bytes) (s : State) : (s.loadBlock b).book = s.book := rfl
@[simp] theorem State.loadBlock_ses (b : Bytes) (s : State) : (s.loadBlock b).ses = s.ses := rfl
@[simp] theorem State.loadBlock_run (b : Bytes) (s : State) : (s.loadBlock b).run = s.run := rfl
@[simp] theorem State.loadBlock_err (b : Bytes) (s : State) : (s.loadBlock b).err = s.err := rfl
@[simp] theorem State.loadBlock_out (b : Bytes) (s : State) : (s.loadBlock b).out = s.out := rfl
@[simp] theorem State.loadBlock_rsaWin (b : Bytes) (s : State) : (s.loadBlock b).rsaWin = s.rsaWin := rfl
@[simp] theorem State.loadBlock_shaWin (b : Bytes) (s : State) : (s.loadBlock b).shaWin = s.shaWin := rfl
@[simp] theorem State.loadBlock_stage (b : Bytes) (s : State) : (s.loadBlock b).stage = s.stage := rfl
@[simp] theorem State.loadBlock_env (b : Bytes) (s : State) : (s.loadBlock b).env = s.env := rfl

/-! `startFilling` -/
@[simp] theorem State.startFilling_cfg (s : State) : (s.startFilling).cfg = s.cfg := rfl
@[simp] theorem State.startFilling_port (s : State) : (s.startFilling).port = s.port := rfl
@[simp] theorem State.startFilling_seq (s : State) : (s.startFilling).seq = { s.seq with proc := .idle } := rfl
@[simp] theorem State.startFilling_rsa (s : State) :
    (s.startFilling).rsa =
      { s.rsa with filler := [], filling := true } := rfl
@[simp] theorem State.startFilling_sha (s : State) : (s.startFilling).sha = s.sha := rfl
@[simp] theorem State.startFilling_book (s : State) : (s.startFilling).book = s.book := rfl
@[simp] theorem State.startFilling_ses (s : State) : (s.startFilling).ses = s.ses := rfl
@[simp] theorem State.startFilling_run (s : State) : (s.startFilling).run = s.run := rfl
@[simp] theorem State.startFilling_err (s : State) : (s.startFilling).err = s.err := rfl
@[simp] theorem State.startFilling_out (s : State) : (s.startFilling).out = s.out := rfl
@[simp] theorem State.startFilling_rsaWin (s : State) : (s.startFilling).rsaWin = s.rsaWin := rfl
@[simp] theorem State.startFilling_shaWin (s : State) : (s.startFilling).shaWin = s.shaWin := rfl
@[simp] theorem State.startFilling_stage (s : State) : (s.startFilling).stage = s.stage := rfl
@[simp] theorem State.startFilling_env (s : State) : (s.startFilling).env = s.env := rfl

/-! `beginRsa` -/
@[simp] theorem State.beginRsa_cfg (op : RsaOp) (key : KeySlot) (src : Bytes) (n : Nat) (s : State) :
    (s.beginRsa op key src n).cfg =
      s.cfg := rfl
@[simp] theorem State.beginRsa_port (op : RsaOp) (key : KeySlot) (src : Bytes) (n : Nat) (s : State) :
    (s.beginRsa op key src n).port =
      s.port := rfl
@[simp] theorem State.beginRsa_seq (op : RsaOp) (key : KeySlot) (src : Bytes) (n : Nat) (s : State) :
    (s.beginRsa op key src n).seq =
      { s.seq with phase := .engine } := rfl
@[simp] theorem State.beginRsa_rsa (op : RsaOp) (key : KeySlot) (src : Bytes) (n : Nat) (s : State) :
    (s.beginRsa op key src n).rsa =
      { s.rsa with key := key, nblk := n, k := 0, acc := [], op := op, src := src, filler := [], filling := false } := rfl
@[simp] theorem State.beginRsa_sha (op : RsaOp) (key : KeySlot) (src : Bytes) (n : Nat) (s : State) :
    (s.beginRsa op key src n).sha =
      s.sha := rfl
@[simp] theorem State.beginRsa_book (op : RsaOp) (key : KeySlot) (src : Bytes) (n : Nat) (s : State) :
    (s.beginRsa op key src n).book =
      s.book := rfl
@[simp] theorem State.beginRsa_ses (op : RsaOp) (key : KeySlot) (src : Bytes) (n : Nat) (s : State) :
    (s.beginRsa op key src n).ses =
      s.ses := rfl
@[simp] theorem State.beginRsa_run (op : RsaOp) (key : KeySlot) (src : Bytes) (n : Nat) (s : State) :
    (s.beginRsa op key src n).run =
      s.run := rfl
@[simp] theorem State.beginRsa_err (op : RsaOp) (key : KeySlot) (src : Bytes) (n : Nat) (s : State) :
    (s.beginRsa op key src n).err =
      s.err := rfl
@[simp] theorem State.beginRsa_out (op : RsaOp) (key : KeySlot) (src : Bytes) (n : Nat) (s : State) :
    (s.beginRsa op key src n).out =
      s.out := rfl
@[simp] theorem State.beginRsa_rsaWin (op : RsaOp) (key : KeySlot) (src : Bytes) (n : Nat) (s : State) :
    (s.beginRsa op key src n).rsaWin =
      s.rsaWin := rfl
@[simp] theorem State.beginRsa_shaWin (op : RsaOp) (key : KeySlot) (src : Bytes) (n : Nat) (s : State) :
    (s.beginRsa op key src n).shaWin =
      s.shaWin := rfl
@[simp] theorem State.beginRsa_stage (op : RsaOp) (key : KeySlot) (src : Bytes) (n : Nat) (s : State) :
    (s.beginRsa op key src n).stage =
      s.stage := rfl
@[simp] theorem State.beginRsa_env (op : RsaOp) (key : KeySlot) (src : Bytes) (n : Nat) (s : State) :
    (s.beginRsa op key src n).env =
      s.env := rfl

/-! `startRsaPoll` -/
@[simp] theorem State.startRsaPoll_cfg (s : State) : (s.startRsaPoll).cfg = s.cfg := rfl
@[simp] theorem State.startRsaPoll_port (s : State) : (s.startRsaPoll).port = s.port := rfl
@[simp] theorem State.startRsaPoll_seq (s : State) : (s.startRsaPoll).seq = { s.seq with proc := .rsaPoll 1 } := rfl
@[simp] theorem State.startRsaPoll_rsa (s : State) : (s.startRsaPoll).rsa = { s.rsa with pollcnt := 0 } := rfl
@[simp] theorem State.startRsaPoll_sha (s : State) : (s.startRsaPoll).sha = s.sha := rfl
@[simp] theorem State.startRsaPoll_book (s : State) : (s.startRsaPoll).book = s.book := rfl
@[simp] theorem State.startRsaPoll_ses (s : State) : (s.startRsaPoll).ses = s.ses := rfl
@[simp] theorem State.startRsaPoll_run (s : State) : (s.startRsaPoll).run = s.run := rfl
@[simp] theorem State.startRsaPoll_err (s : State) : (s.startRsaPoll).err = s.err := rfl
@[simp] theorem State.startRsaPoll_out (s : State) : (s.startRsaPoll).out = s.out := rfl
@[simp] theorem State.startRsaPoll_rsaWin (s : State) : (s.startRsaPoll).rsaWin = s.rsaWin := rfl
@[simp] theorem State.startRsaPoll_shaWin (s : State) : (s.startRsaPoll).shaWin = s.shaWin := rfl
@[simp] theorem State.startRsaPoll_stage (s : State) : (s.startRsaPoll).stage = s.stage := rfl
@[simp] theorem State.startRsaPoll_env (s : State) : (s.startRsaPoll).env = s.env := rfl

/-! `startShaPoll` -/
@[simp] theorem State.startShaPoll_cfg (s : State) : (s.startShaPoll).cfg = s.cfg := rfl
@[simp] theorem State.startShaPoll_port (s : State) : (s.startShaPoll).port = s.port := rfl
@[simp] theorem State.startShaPoll_seq (s : State) : (s.startShaPoll).seq = { s.seq with proc := .shaPoll 1 } := rfl
@[simp] theorem State.startShaPoll_rsa (s : State) : (s.startShaPoll).rsa = s.rsa := rfl
@[simp] theorem State.startShaPoll_sha (s : State) : (s.startShaPoll).sha = { s.sha with pollcnt := 0 } := rfl
@[simp] theorem State.startShaPoll_book (s : State) : (s.startShaPoll).book = s.book := rfl
@[simp] theorem State.startShaPoll_ses (s : State) : (s.startShaPoll).ses = s.ses := rfl
@[simp] theorem State.startShaPoll_run (s : State) : (s.startShaPoll).run = s.run := rfl
@[simp] theorem State.startShaPoll_err (s : State) : (s.startShaPoll).err = s.err := rfl
@[simp] theorem State.startShaPoll_out (s : State) : (s.startShaPoll).out = s.out := rfl
@[simp] theorem State.startShaPoll_rsaWin (s : State) : (s.startShaPoll).rsaWin = s.rsaWin := rfl
@[simp] theorem State.startShaPoll_shaWin (s : State) : (s.startShaPoll).shaWin = s.shaWin := rfl
@[simp] theorem State.startShaPoll_stage (s : State) : (s.startShaPoll).stage = s.stage := rfl
@[simp] theorem State.startShaPoll_env (s : State) : (s.startShaPoll).env = s.env := rfl

/-! `hashBegin` -/
@[simp] theorem State.hashBegin_cfg (m : Bytes) (h : Bool) (s : State) : (s.hashBegin m h).cfg = s.cfg := rfl
@[simp] theorem State.hashBegin_port (m : Bytes) (h : Bool) (s : State) : (s.hashBegin m h).port = s.port := rfl
@[simp] theorem State.hashBegin_seq (m : Bytes) (h : Bool) (s : State) :
    (s.hashBegin m h).seq =
      { s.seq with proc := .shaWrReset, phase := .engine } := rfl
@[simp] theorem State.hashBegin_rsa (m : Bytes) (h : Bool) (s : State) : (s.hashBegin m h).rsa = s.rsa := rfl
@[simp] theorem State.hashBegin_sha (m : Bytes) (h : Bool) (s : State) :
    (s.hashBegin m h).sha =
      { s.sha with msg := shaPad m, j := 0, dig := [], hex := h } := rfl
@[simp] theorem State.hashBegin_book (m : Bytes) (h : Bool) (s : State) : (s.hashBegin m h).book = s.book := rfl
@[simp] theorem State.hashBegin_ses (m : Bytes) (h : Bool) (s : State) : (s.hashBegin m h).ses = s.ses := rfl
@[simp] theorem State.hashBegin_run (m : Bytes) (h : Bool) (s : State) : (s.hashBegin m h).run = s.run := rfl
@[simp] theorem State.hashBegin_err (m : Bytes) (h : Bool) (s : State) : (s.hashBegin m h).err = s.err := rfl
@[simp] theorem State.hashBegin_out (m : Bytes) (h : Bool) (s : State) : (s.hashBegin m h).out = s.out := rfl
@[simp] theorem State.hashBegin_rsaWin (m : Bytes) (h : Bool) (s : State) : (s.hashBegin m h).rsaWin = s.rsaWin := rfl
@[simp] theorem State.hashBegin_shaWin (m : Bytes) (h : Bool) (s : State) : (s.hashBegin m h).shaWin = s.shaWin := rfl
@[simp] theorem State.hashBegin_stage (m : Bytes) (h : Bool) (s : State) : (s.hashBegin m h).stage = s.stage := rfl
@[simp] theorem State.hashBegin_env (m : Bytes) (h : Bool) (s : State) : (s.hashBegin m h).env = s.env := rfl

/-! `rxClear` -/
@[simp] theorem State.rxClear_cfg (s : State) : (s.rxClear).cfg = s.cfg := rfl
@[simp] theorem State.rxClear_port (s : State) : (s.rxClear).port = s.port := rfl
@[simp] theorem State.rxClear_seq (s : State) : (s.rxClear).seq = s.seq := rfl
@[simp] theorem State.rxClear_rsa (s : State) : (s.rxClear).rsa = s.rsa := rfl
@[simp] theorem State.rxClear_sha (s : State) : (s.rxClear).sha = s.sha := rfl
@[simp] theorem State.rxClear_book (s : State) : (s.rxClear).book = s.book := rfl
@[simp] theorem State.rxClear_ses (s : State) : (s.rxClear).ses = { s.ses with rx := .lenField, rxBuf := [] } := rfl
@[simp] theorem State.rxClear_run (s : State) : (s.rxClear).run = s.run := rfl
@[simp] theorem State.rxClear_err (s : State) : (s.rxClear).err = s.err := rfl
@[simp] theorem State.rxClear_out (s : State) : (s.rxClear).out = s.out := rfl
@[simp] theorem State.rxClear_rsaWin (s : State) : (s.rxClear).rsaWin = s.rsaWin := rfl
@[simp] theorem State.rxClear_shaWin (s : State) : (s.rxClear).shaWin = s.shaWin := rfl
@[simp] theorem State.rxClear_stage (s : State) : (s.rxClear).stage = s.stage := rfl
@[simp] theorem State.rxClear_env (s : State) : (s.rxClear).env = s.env := rfl

/-! `startSession` -/
@[simp] theorem State.startSession_cfg (r : Role) (i : Nat) (s : State) : (s.startSession r i).cfg = s.cfg := rfl
@[simp] theorem State.startSession_port (r : Role) (i : Nat) (s : State) : (s.startSession r i).port = s.port := rfl
@[simp] theorem State.startSession_seq (r : Role) (i : Nat) (s : State) :
    (s.startSession r i).seq =
      { s.seq with sess := .init, proc := .idle, phase := .start } := rfl
@[simp] theorem State.startSession_rsa (r : Role) (i : Nat) (s : State) : (s.startSession r i).rsa = s.rsa := rfl
@[simp] theorem State.startSession_sha (r : Role) (i : Nat) (s : State) : (s.startSession r i).sha = s.sha := rfl
@[simp] theorem State.startSession_book (r : Role) (i : Nat) (s : State) : (s.startSession r i).book = s.book := rfl
@[simp] theorem State.startSession_ses (r : Role) (i : Nat) (s : State) :
    (s.startSession r i).ses =
      Session.fresh r := rfl
@[simp] theorem State.startSession_run (r : Role) (i : Nat) (s : State) :
    (s.startSession r i).run =
      { s.run with orgIdx := i } := rfl
@[simp] theorem State.startSession_err (r : Role) (i : Nat) (s : State) : (s.startSession r i).err = s.err := rfl
@[simp] theorem State.startSession_out (r : Role) (i : Nat) (s : State) : (s.startSession r i).out = s.out := rfl
@[simp] theorem State.startSession_rsaWin (r : Role) (i : Nat) (s : State) :
    (s.startSession r i).rsaWin =
      s.rsaWin := rfl
@[simp] theorem State.startSession_shaWin (r : Role) (i : Nat) (s : State) :
    (s.startSession r i).shaWin =
      s.shaWin := rfl
@[simp] theorem State.startSession_stage (r : Role) (i : Nat) (s : State) :
    (s.startSession r i).stage =
      s.stage := rfl
@[simp] theorem State.startSession_env (r : Role) (i : Nat) (s : State) : (s.startSession r i).env = s.env := rfl

/-! `dropRequest` -/
@[simp] theorem State.dropRequest_cfg (s : State) : (s.dropRequest).cfg = s.cfg := rfl
@[simp] theorem State.dropRequest_port (s : State) : (s.dropRequest).port = s.port := rfl
@[simp] theorem State.dropRequest_seq (s : State) : (s.dropRequest).seq = s.seq := rfl
@[simp] theorem State.dropRequest_rsa (s : State) : (s.dropRequest).rsa = s.rsa := rfl
@[simp] theorem State.dropRequest_sha (s : State) : (s.dropRequest).sha = s.sha := rfl
@[simp] theorem State.dropRequest_book (s : State) : (s.dropRequest).book = s.book := rfl
@[simp] theorem State.dropRequest_ses (s : State) : (s.dropRequest).ses = s.ses := rfl
@[simp] theorem State.dropRequest_run (s : State) : (s.dropRequest).run = s.run := rfl
@[simp] theorem State.dropRequest_err (s : State) : (s.dropRequest).err = s.err := rfl
@[simp] theorem State.dropRequest_out (s : State) : (s.dropRequest).out = s.out := rfl
@[simp] theorem State.dropRequest_rsaWin (s : State) : (s.dropRequest).rsaWin = s.rsaWin := rfl
@[simp] theorem State.dropRequest_shaWin (s : State) : (s.dropRequest).shaWin = s.shaWin := rfl
@[simp] theorem State.dropRequest_stage (s : State) : (s.dropRequest).stage = s.stage := rfl
@[simp] theorem State.dropRequest_env (s : State) : (s.dropRequest).env = { s.env with busRequest := none } := rfl

end Sys2Proof.Machine
end

