-- ==== Sys2Proof/Laws/Ops.lean ====
section
/-! SUPPORT. For each shared operation, what it can do: one lemma per case, and for the raise one lemma per field of
State. Later proofs cite these and do not unfold the operations. -/

namespace Sys2Proof.Machine

/-! ### Acceptance and completion -/

/-- What a presented command answers: nothing while busy, its rule's start when accepted, the refusal otherwise. -/
theorem State.gated_cases {u s t : State} (h : s.gated u = .next t) :
    (s.port.busy = true ∧ t = s) ∨ (s.port.busy = false ∧ s.env.boot.met = true ∧ t = u) := by
  unfold State.gated at h
  split at h
  · rename_i hb
    cases h
    exact .inl ⟨hb, rfl⟩
  · rename_i hb
    split at h
    · rename_i hm
      cases h
      exact .inr ⟨by simpa using hb, hm, rfl⟩
    · cases h

theorem State.gated_accepts {u s : State} (hb : s.port.busy = false) (hm : s.env.boot.met = true) :
    s.gated u = .next u := by
  simp [State.gated, hb, hm]

theorem State.gated_ne_fault {u s : State} (f : Fault) : s.gated u ≠ .fault f := by
  unfold State.gated
  split
  · simp
  · split <;> simp

theorem State.command_cases {w : Word} {k : Bytes → State → State} {s t : State} (h : s.command w k = .next t) :
    (s.port.busy = true ∧ t = s) ∨
    (s.port.busy = false ∧ s.env.boot.met = true ∧ t = k s.presentedData (s.accept w s.presentedData)) :=
  State.gated_cases h

theorem State.command_accepts {w : Word} {k : Bytes → State → State} {s : State} (hb : s.port.busy = false)
    (hm : s.env.boot.met = true) : s.command w k = .next (k s.presentedData (s.accept w s.presentedData)) :=
  State.gated_accepts hb hm

theorem State.command_ne_fault {w : Word} {k : Bytes → State → State} {s : State} (f : Fault) :
    s.command w k ≠ .fault f := State.gated_ne_fault f

/-! ### The raise -/

theorem State.raise_in_session (c : Cause) {s : State} (h : s.seq.sess.active = true) :
    s.raise c =
      { s with
        err := s.errRecOf c
        seq := { s.seq with sess := .failed, proc := .idle, phase := .start }
        rsa := { s.rsa with filling := false }
        run := { s.run with sessLog := s.run.sessLog ++ [(s.run.orgIdx, .failure (s.errRecOf c))] } } := by
  simp [State.raise, h]

theorem State.raise_in_validation (c : Cause) {s : State} (h : s.seq.sess.active = false)
    (hr : s.seq.run.active = true) :
    s.raise c = State.complete .fail [] { s with err := s.errRecOf c, seq := { s.seq with run := .runFailed } } := by
  simp [State.raise, h, hr]

theorem State.raise_in_command (c : Cause) {s : State} (h : s.seq.sess.active = false)
    (hr : s.seq.run.active = false) : s.raise c = State.complete .fail [] { s with err := s.errRecOf c } := by
  simp [State.raise, h, hr]

/-- The three cases of a raise as one `if` per field of State. -/
theorem State.raise_eq (c : Cause) (s : State) :
    s.raise c =
      { s with
        port := if s.seq.sess.active then s.port
          else { s.port with busy := false, resStatus := .fail, resData := [] }
        seq :=
          { run := if s.seq.sess.active then s.seq.run else if s.seq.run.active then .runFailed else s.seq.run
            sess := if s.seq.sess.active then .failed else .noSession
            proc := .idle
            phase := .start }
        rsa := { s.rsa with filling := false }
        err := s.errRecOf c
        run := if s.seq.sess.active then
            { s.run with sessLog := s.run.sessLog ++ [(s.run.orgIdx, .failure (s.errRecOf c))] }
          else s.run } := by
  cases h : s.seq.sess.active
  · cases hr : s.seq.run.active
    · rw [State.raise_in_command c h hr]; simp [State.complete]
    · rw [State.raise_in_validation c h hr]; simp [State.complete]
  · rw [State.raise_in_session c h]; simp

@[simp] theorem State.raise_cfg (c : Cause) (s : State) : (s.raise c).cfg = s.cfg := by rw [State.raise_eq]
@[simp] theorem State.raise_sha (c : Cause) (s : State) : (s.raise c).sha = s.sha := by rw [State.raise_eq]
@[simp] theorem State.raise_book (c : Cause) (s : State) : (s.raise c).book = s.book := by rw [State.raise_eq]
@[simp] theorem State.raise_ses (c : Cause) (s : State) : (s.raise c).ses = s.ses := by rw [State.raise_eq]
@[simp] theorem State.raise_out (c : Cause) (s : State) : (s.raise c).out = s.out := by rw [State.raise_eq]
@[simp] theorem State.raise_rsaWin (c : Cause) (s : State) : (s.raise c).rsaWin = s.rsaWin := by rw [State.raise_eq]
@[simp] theorem State.raise_shaWin (c : Cause) (s : State) : (s.raise c).shaWin = s.shaWin := by rw [State.raise_eq]
@[simp] theorem State.raise_stage (c : Cause) (s : State) : (s.raise c).stage = s.stage := by rw [State.raise_eq]
@[simp] theorem State.raise_env (c : Cause) (s : State) : (s.raise c).env = s.env := by rw [State.raise_eq]
@[simp] theorem State.raise_err (c : Cause) (s : State) : (s.raise c).err = s.errRecOf c := by rw [State.raise_eq]
@[simp] theorem State.raise_rsa (c : Cause) (s : State) : (s.raise c).rsa = { s.rsa with filling := false } := by
  rw [State.raise_eq]
@[simp] theorem State.raise_port (c : Cause) (s : State) : (s.raise c).port =
    if s.seq.sess.active then s.port else { s.port with busy := false, resStatus := .fail, resData := [] } := by
  rw [State.raise_eq]
@[simp] theorem State.raise_run (c : Cause) (s : State) : (s.raise c).run =
    if s.seq.sess.active then
      { s.run with sessLog := s.run.sessLog ++ [(s.run.orgIdx, .failure (s.errRecOf c))] }
    else s.run := by
  rw [State.raise_eq]
@[simp] theorem State.raise_seq (c : Cause) (s : State) : (s.raise c).seq =
    { run := if s.seq.sess.active then s.seq.run else if s.seq.run.active then .runFailed else s.seq.run
      sess := if s.seq.sess.active then .failed else .noSession
      proc := .idle
      phase := .start } := by
  rw [State.raise_eq]

/-! ### Guards and the transport -/

theorem State.guarded_of_cancel {k : State → State} {s : State} (h : s.env.cancel = true) :
    s.guarded k = s.raise .cancelled := by simp [State.guarded, h]

theorem State.guarded_of_not_cancel {k : State → State} {s : State} (h : s.env.cancel = false) :
    s.guarded k = k s := by simp [State.guarded, h]

theorem State.guarded_cases (k : State → State) (s : State) :
    (s.env.cancel = true ∧ s.guarded k = s.raise .cancelled) ∨ (s.env.cancel = false ∧ s.guarded k = k s) := by
  cases h : s.env.cancel
  · exact .inr ⟨rfl, State.guarded_of_not_cancel h⟩
  · exact .inl ⟨rfl, State.guarded_of_cancel h⟩

theorem State.sendThen_sent {b : Bytes} {k : State → State} {s : State} (h : s.sendAnswer = .sent) :
    s.sendThen b k = k (s.tookSend [b]) := by simp [State.sendThen, h]

theorem State.sendThen_cases (b : Bytes) (k : State → State) (s : State) :
    (s.sendAnswer = .sent ∧ s.sendThen b k = k (s.tookSend [b])) ∨
    (s.sendAnswer = .closed ∧ s.sendThen b k = (s.tookSend []).raise .closed) ∨
    (s.sendAnswer = .timeout ∧ s.sendThen b k = (s.tookSend []).raise .timeout) := by
  cases h : s.sendAnswer <;> simp [State.sendThen, h]

/-- `Recv(n)` gives `k` between 1 and n bytes, the next of the stream, or it raises (R113). -/
theorem State.recvThen_cases (n : Nat) (k : Bytes → State → State) (s : State) :
    (∃ b bs, s.recvAnswer = .data (b :: bs) ∧
      s.recvThen n k = k ((b :: bs).take n) (s.tookRecv ((b :: bs).drop n))) ∨
    ((s.recvAnswer = .data [] ∨ s.recvAnswer = .closed) ∧ s.recvThen n k = (s.tookRecv []).raise .closed) ∨
    (s.recvAnswer = .timeout ∧ s.recvThen n k = (s.tookRecv []).raise .timeout) := by
  cases h : s.recvAnswer with
  | data d =>
    cases d with
    | nil => exact .inr (.inl ⟨.inl rfl, by simp [State.recvThen, h]⟩)
    | cons b bs => exact .inl ⟨b, bs, rfl, by simp [State.recvThen, h]⟩
  | closed => exact .inr (.inl ⟨.inr rfl, by simp [State.recvThen, h]⟩)
  | timeout => exact .inr (.inr ⟨rfl, by simp [State.recvThen, h]⟩)

/-! ### The engines -/

theorem State.rsaReturn_in_session (out : Bytes) {s : State} (h : s.seq.sess.active = true) :
    s.rsaReturn out =
      { s with
        ses := { s.ses with held := out }
        seq := { s.seq with proc := .idle, phase := returnPhase s.rsa.op } } := by
  rw [State.rsaReturn, if_pos h]

theorem State.rsaReturn_in_validation (out : Bytes) {s : State} (h : s.seq.sess.active = false)
    (hr : s.seq.run = .valDecrypt) :
    s.rsaReturn out =
      { s with
        run := { s.run with decImg := out }
        seq := { s.seq with run := .valParse, proc := .idle, phase := .start } } := by
  simp [State.rsaReturn, h, hr]

theorem State.rsaReturn_in_command (out : Bytes) {s : State} (h : s.seq.sess.active = false)
    (hr : s.seq.run ≠ .valDecrypt) : s.rsaReturn out = s.complete .ok out := by
  simp [State.rsaReturn, h, hr]

theorem State.encryptBegin_cases (p : Bytes) (key : KeySlot) (s : State) :
    (key = .devicePrivate ∧ s.encryptBegin p key = s.raise .keySlotMisuse) ∨
    (key ≠ .devicePrivate ∧ segCount p = 0 ∧
      s.encryptBegin p key = (s.beginRsa .encrypt key p (segCount p)).rsaReturn []) ∨
    (key ≠ .devicePrivate ∧ segCount p ≠ 0 ∧
      s.encryptBegin p key = (s.beginRsa .encrypt key p (segCount p)).startFilling) := by
  by_cases hk : key = .devicePrivate
  · exact .inl ⟨hk, by simp [State.encryptBegin, hk]⟩
  · by_cases hn : segCount p = 0
    · exact .inr (.inl ⟨hk, hn, by simp [State.encryptBegin, hk, hn]⟩)
    · exact .inr (.inr ⟨hk, hn, by simp [State.encryptBegin, hk, hn]⟩)

theorem State.decryptBegin_cases (c : Bytes) (key : KeySlot) (s : State) :
    (key ≠ .devicePrivate ∧ s.decryptBegin c key = s.raise .keySlotMisuse) ∨
    (key = .devicePrivate ∧ (c.length = 0 ∨ c.length % 64 ≠ 0) ∧ s.decryptBegin c key = s.raise .badLength) ∨
    (key = .devicePrivate ∧ 0 < c.length ∧ c.length % 64 = 0 ∧
      s.decryptBegin c key = (s.beginRsa .decrypt key c (c.length / 64)).loadBlock (cipherBlock c 0)) := by
  by_cases hk : key = .devicePrivate
  · by_cases hl : c.length = 0 ∨ c.length % 64 ≠ 0
    · exact .inr (.inl ⟨hk, hl, by simp only [State.decryptBegin, hk, if_pos hl]; simp⟩)
    · exact .inr (.inr ⟨hk, by omega, by omega, by simp only [State.decryptBegin, hk, if_neg hl]; simp⟩)
  · exact .inl ⟨hk, by simp [State.decryptBegin, hk]⟩

theorem State.fillStep_cases (s : State) :
    (s.rsa.filler.length + 1 < 8 ∧
      s.fillStep = { s.tookFiller with rsa := { s.rsa with filler := s.rsa.filler ++ [s.fillerByte] } }) ∨
    (8 ≤ s.rsa.filler.length + 1 ∧
      s.fillStep = State.loadBlock (padBlock (segAt s.rsa.src s.rsa.k) (s.rsa.filler ++ [s.fillerByte]))
        { s.tookFiller with rsa := { s.rsa with filler := s.rsa.filler ++ [s.fillerByte] } }) := by
  by_cases h : s.rsa.filler.length + 1 < 8
  · exact .inl ⟨h, by simp [State.fillStep, h]⟩
  · exact .inr ⟨by omega, by simp [State.fillStep, h]⟩

theorem State.encryptBlockDone_cases (s : State) :
    let acc := s.rsa.acc ++ unwords s.rsa.out.toList
    let t : State := { s with rsa := { s.rsa with acc := acc, k := s.rsa.k + 1 } }
    (s.rsa.k + 1 < s.rsa.nblk ∧ s.encryptBlockDone = t.startFilling) ∨
    (s.rsa.nblk ≤ s.rsa.k + 1 ∧ s.encryptBlockDone = t.rsaReturn acc) := by
  by_cases h : s.rsa.k + 1 < s.rsa.nblk
  · exact .inl ⟨h, by simp [State.encryptBlockDone, h]⟩
  · exact .inr ⟨by omega, by simp [State.encryptBlockDone, h]⟩

theorem State.decryptBlockDone_cases (s : State) :
    let o := unwords s.rsa.out.toList
    let t : Bytes → State := fun acc => { s with rsa := { s.rsa with acc := acc, k := s.rsa.k + 1 } }
    (s.cfg.hdrCheck = .strict ∧ hdrOk o = false ∧ s.decryptBlockDone = s.raise (.invalidPadding s.rsa.k)) ∨
    (¬(s.cfg.hdrCheck = .strict ∧ hdrOk o = false) ∧ s.rsa.nblk ≤ s.rsa.k + 1 ∧
      s.decryptBlockDone =
        (t (s.rsa.acc ++ strip (payloadOf o))).rsaReturn (s.rsa.acc ++ strip (payloadOf o))) ∨
    (¬(s.cfg.hdrCheck = .strict ∧ hdrOk o = false) ∧ s.rsa.k + 1 < s.rsa.nblk ∧
      s.decryptBlockDone =
        (t (s.rsa.acc ++ payloadOf o)).loadBlock (cipherBlock s.rsa.src (s.rsa.k + 1))) := by
  by_cases hh : s.cfg.hdrCheck = .strict ∧ hdrOk (unwords s.rsa.out.toList) = false
  · exact .inl ⟨hh.1, hh.2, by simp only [State.decryptBlockDone, if_pos hh]⟩
  · by_cases hl : s.rsa.nblk ≤ s.rsa.k + 1
    · exact .inr (.inl ⟨hh, hl, by simp only [State.decryptBlockDone, if_neg hh]; simp [hl]⟩)
    · exact .inr (.inr ⟨hh, by omega, by simp only [State.decryptBlockDone, if_neg hh]; simp [hl]⟩)

theorem State.rsaPolled_cases (w : Word) (s : State) :
    let t : State := { s with rsa := { s.rsa with pollcnt := s.rsa.pollcnt + 1 } }
    (w = s.cfg.rsaDone ∧ s.rsaPolled w = t.goProc (.rsaRdData 0)) ∨
    (w ≠ s.cfg.rsaDone ∧ s.cfg.pollMax ≤ s.rsa.pollcnt + 1 ∧
      s.rsaPolled w = (t.setSuspect .rsa).raise (.hardwareTimeout .rsa)) ∨
    (w ≠ s.cfg.rsaDone ∧ s.rsa.pollcnt + 1 < s.cfg.pollMax ∧
      s.rsaPolled w = t.goProc (.rsaPoll (s.rsa.pollcnt + 2))) := by
  by_cases hd : w = s.cfg.rsaDone
  · exact .inl ⟨hd, by simp [State.rsaPolled, State.rsaDoneIs, hd]⟩
  · by_cases hm : s.cfg.pollMax ≤ s.rsa.pollcnt + 1
    · exact .inr (.inl ⟨hd, hm, by simp [State.rsaPolled, State.rsaDoneIs, hd, hm]⟩)
    · exact .inr (.inr ⟨hd, by omega, by simp [State.rsaPolled, State.rsaDoneIs, hd, hm]⟩)

theorem State.shaPolled_cases (w : Word) (s : State) :
    let t : State := { s with sha := { s.sha with pollcnt := s.sha.pollcnt + 1 } }
    (w = s.cfg.shaReady ∧ s.shaPolled w = t.goProc (.shaRdDigest 0)) ∨
    (w ≠ s.cfg.shaReady ∧ s.cfg.pollMax ≤ s.sha.pollcnt + 1 ∧
      s.shaPolled w = (t.setSuspect .sha3).raise (.hardwareTimeout .sha3)) ∨
    (w ≠ s.cfg.shaReady ∧ s.sha.pollcnt + 1 < s.cfg.pollMax ∧
      s.shaPolled w = t.goProc (.shaPoll (s.sha.pollcnt + 2))) := by
  by_cases hd : w = s.cfg.shaReady
  · exact .inl ⟨hd, by simp [State.shaPolled, State.shaReadyIs, hd]⟩
  · by_cases hm : s.cfg.pollMax ≤ s.sha.pollcnt + 1
    · exact .inr (.inl ⟨hd, hm, by simp [State.shaPolled, State.shaReadyIs, hd, hm]⟩)
    · exact .inr (.inr ⟨hd, by omega, by simp [State.shaPolled, State.shaReadyIs, hd, hm]⟩)

theorem State.hashDone_cases (s : State) :
    (s.seq.run = .valHash ∧
      s.hashDone =
        { s with
          run := { s.run with digest := s.sha.dig }
          seq := { s.seq with run := .valCompare, proc := .idle, phase := .start } }) ∨
    (s.seq.run ≠ .valHash ∧ s.hashDone = s.complete .ok (if s.sha.hex then hexEnc s.sha.dig else s.sha.dig)) := by
  by_cases h : s.seq.run = .valHash
  · exact .inl ⟨h, by simp [State.hashDone, h]⟩
  · exact .inr ⟨h, by simp [State.hashDone, h]⟩

/-! ### Receiving -/

theorem State.onFrame_ready {k : Bytes → State → State} {s : State} (h : s.frameReady = true) :
    s.onFrame k = k s.ses.rxBuf s.rxClear := by simp [State.onFrame, h]

theorem State.lenFieldDone_cases (s : State) :
    (s.codec.bodyLen s.ses.rxBuf = none ∧ s.lenFieldDone = s.raise .badPrefix) ∨
    (∃ len, s.codec.bodyLen s.ses.rxBuf = some len ∧ ctrlRxMax < s.codec.pfxWidth + len ∧
      s.lenFieldDone = s.raise .frameTooLong) ∨
    (∃ len, s.codec.bodyLen s.ses.rxBuf = some len ∧ s.codec.pfxWidth + len ≤ ctrlRxMax ∧
      s.lenFieldDone = { s with ses := { s.ses with rx := .body len, rxBuf := [] } }) := by
  cases h : s.codec.bodyLen s.ses.rxBuf with
  | none => exact .inl ⟨rfl, by simp [State.lenFieldDone, h]⟩
  | some len =>
    by_cases hl : ctrlRxMax < s.codec.pfxWidth + len
    · exact .inr (.inl ⟨len, rfl, hl, by simp [State.lenFieldDone, h, hl]⟩)
    · exact .inr (.inr ⟨len, rfl, by omega, by simp [State.lenFieldDone, h, hl]⟩)

/-- What one step of a receiving rule can do: a raise, one more piece of the frame, the body's length, or `k` on the
whole body. -/
theorem State.onFrame_cases (k : Bytes → State → State) (s : State) :
    (s.frameReady = true ∧ s.onFrame k = k s.ses.rxBuf s.rxClear) ∨
    (s.frameReady = false ∧
      ((∃ c, s.onFrame k = s.raise c) ∨ (∃ c, s.onFrame k = (s.tookRecv []).raise c) ∨
       (∃ r rest, s.onFrame k =
          { s.tookRecv rest with ses := { s.ses with rxBuf := s.ses.rxBuf ++ r } }) ∨
       (∃ len, s.onFrame k = { s with ses := { s.ses with rx := .body len, rxBuf := [] } }))) := by
  cases hf : s.frameReady
  · refine .inr ⟨rfl, ?_⟩
    have he : s.onFrame k = s.recvFrameStep := by simp [State.onFrame, hf]
    rw [he]
    unfold State.recvFrameStep
    split
    · rcases State.guarded_cases (State.recvThen (s.rxWant - s.ses.rxBuf.length)
        fun r t => { t with ses := { t.ses with rxBuf := t.ses.rxBuf ++ r } }) s with ⟨-, h⟩ | ⟨-, h⟩
      · exact .inl ⟨_, h⟩
      · rw [h]
        rcases State.recvThen_cases (s.rxWant - s.ses.rxBuf.length)
          (fun r t => { t with ses := { t.ses with rxBuf := t.ses.rxBuf ++ r } }) s with
          ⟨b, bs, -, h⟩ | ⟨-, h⟩ | ⟨-, h⟩
        · exact .inr (.inr (.inl ⟨_, _, h⟩))
        · exact .inr (.inl ⟨_, h⟩)
        · exact .inr (.inl ⟨_, h⟩)
    · rcases s.lenFieldDone_cases with ⟨-, h⟩ | ⟨len, -, -, h⟩ | ⟨len, -, -, h⟩
      · exact .inl ⟨_, h⟩
      · exact .inl ⟨_, h⟩
      · exact .inr (.inr (.inr ⟨len, h⟩))
  · exact .inl ⟨rfl, State.onFrame_ready hf⟩

theorem State.openBody_cases (par : Bytes → Option Bytes) (bad : Cause) (b : Bytes) (s : State) :
    (par b = none ∧ s.openBody par bad b = s.raise bad) ∨
    (∃ ct, par b = some ct ∧ s.env.cancel = true ∧ s.openBody par bad b = s.raise .cancelled) ∨
    (∃ ct, par b = some ct ∧ s.env.cancel = false ∧ s.openBody par bad b = s.decryptBegin ct .devicePrivate) := by
  cases h : par b with
  | none => exact .inl ⟨rfl, by simp [State.openBody, h]⟩
  | some ct =>
    cases hc : s.env.cancel
    · exact .inr (.inr ⟨ct, rfl, rfl, by simp [State.openBody, h, State.guarded, hc]⟩)
    · exact .inr (.inl ⟨ct, rfl, rfl, by simp [State.openBody, h, State.guarded, hc]⟩)

/-! ### The run -/

/-- The end of a failed run, field by field: `err` is the run's first error (R151). -/
theorem State.failRun_eq (s : State) :
    s.failRun =
      { s with
        port := { s.port with busy := false, resStatus := .fail, resData := [] }
        err := s.run.firstGcErr.getD s.err
        seq := { run := .runFailed, sess := .noSession, proc := .idle, phase := .start }
        rsa := { s.rsa with filling := false } } := rfl

theorem State.nextOrg_cases (s : State) :
    (s.run.orgIdx + 1 < s.cfg.nOrgs ∧
      s.nextOrg = (s.goRun .runGC).startSession .confirming (s.run.orgIdx + 1)) ∨
    (∃ e, s.cfg.nOrgs ≤ s.run.orgIdx + 1 ∧ s.run.firstGcErr = some e ∧
      s.nextOrg = s.failRun) ∨
    (s.cfg.nOrgs ≤ s.run.orgIdx + 1 ∧ s.run.firstGcErr = none ∧
      s.nextOrg =
        { s with seq := { s.seq with run := .valDecrypt, sess := .noSession, proc := .idle, phase := .start } }) := by
  by_cases h : s.run.orgIdx + 1 < s.cfg.nOrgs
  · exact .inl ⟨h, by simp [State.nextOrg, h]⟩
  · cases he : s.run.firstGcErr with
    | none => exact .inr (.inr ⟨by omega, rfl, by simp [State.nextOrg, h, he]⟩)
    | some e => exact .inr (.inl ⟨e, by omega, rfl, by simp [State.nextOrg, h, he]⟩)

theorem State.failedStep_cases (s : State) :
    (s.seq.run = .runGC ∧ s.cfg.confirmFail = .goOn ∧ s.err.kind ≠ .transportFailure ∧
      s.failedStep = State.nextOrg { s with run := { s.run with firstGcErr := keepFirst s.run.firstGcErr s.err } }) ∨
    (¬(s.seq.run = .runGC ∧ s.cfg.confirmFail = .goOn ∧ s.err.kind ≠ .transportFailure) ∧
      s.failedStep = s.failRun) := by
  by_cases h : s.seq.run = .runGC ∧ s.cfg.confirmFail = .goOn ∧ s.err.kind ≠ .transportFailure
  · exact .inl ⟨h.1, h.2.1, h.2.2, by simp [State.failedStep, h]⟩
  · exact .inr ⟨h, by simp only [State.failedStep, if_neg h]⟩

theorem State.valCompareStep_cases (s : State) :
    (∃ c, s.valCompareStep = s.raise c) ∨
    (∃ h, s.run.hdr = some h ∧ s.run.digest = h.hash ∧
      firstMismatch s.cfg.attestEnc s.run.digest 1 s.run.attests = none ∧
      s.valCompareStep = s.readyToInstall h) := by
  cases hh : s.run.hdr with
  | none => exact .inl ⟨_, by simp [State.valCompareStep, hh]; rfl⟩
  | some h =>
    by_cases hd : s.run.digest = h.hash
    · cases hm : firstMismatch s.cfg.attestEnc s.run.digest 1 s.run.attests with
      | none => exact .inr ⟨h, rfl, hd, rfl, by simp [State.valCompareStep, hh, ← hd, hm]⟩
      | some i => exact .inl ⟨.attestMismatch i, by simp [State.valCompareStep, hh, ← hd, hm]⟩
    · exact .inl ⟨.headerMismatch, by simp [State.valCompareStep, hh, hd]⟩

/-- Every attestation matches exactly when there is no first mismatch (R138). -/
theorem firstMismatch_eq_none (enc : AttestEnc) (d : Bytes) (n : Nat) (as : List Bytes) :
    firstMismatch enc d n as = none ↔ ∀ a ∈ as, attestEq enc d a = true := by
  induction as generalizing n with
  | nil => simp [firstMismatch]
  | cons a rest ih =>
    cases h : attestEq enc d a <;> simp [firstMismatch, h, ih]

end Sys2Proof.Machine
end

