-- ==== Sys2Proof/Laws/PerInstr.lean ====
section
/-! SUPPORT. Laws about every instruction as syntax, one lemma per constructor: the code that `encode` gives is a legal
code of the tables of R65, R67 and R69. -/

namespace Sys2Proof.Laws.LegalCode

/-- The instruction's code is a legal encoding. -/
def Statement (i : Instr) : Prop := (encode i).wellFormed = true

theorem rsaEncrypt (key : KeySlot) : Statement (.rsaEncrypt key) := by unfold Statement; cases key <;> decide
theorem rsaDecrypt (key : KeySlot) : Statement (.rsaDecrypt key) := by unfold Statement; cases key <;> decide
theorem sha3Reset : Statement .sha3Reset := by unfold Statement; decide
theorem sha3Hash (hex : Bool) : Statement (.sha3Hash hex) := by unfold Statement; cases hex <;> decide
theorem protoRun : Statement .protoRun := by unfold Statement; decide
theorem rsaWrData (i : Fin 16) : Statement (.rsaWrData i) := by revert i; unfold Statement; decide
theorem rsaWrKeysel : Statement .rsaWrKeysel := by unfold Statement; decide
theorem rsaWrStart : Statement .rsaWrStart := by unfold Statement; decide
theorem rsaRdStatus : Statement .rsaRdStatus := by unfold Statement; decide
theorem rsaRdData (i : Fin 16) : Statement (.rsaRdData i) := by revert i; unfold Statement; decide
theorem rsaWrStop : Statement .rsaWrStop := by unfold Statement; decide
theorem sha3WrReset : Statement .sha3WrReset := by unfold Statement; decide
theorem sha3WrStart : Statement .sha3WrStart := by unfold Statement; decide
theorem sha3RdReady : Statement .sha3RdReady := by unfold Statement; decide
theorem sha3RdFull : Statement .sha3RdFull := by unfold Statement; decide
theorem sha3RdDigest : Statement .sha3RdDigest := by unfold Statement; decide
theorem sha3WrFifo : Statement .sha3WrFifo := by unfold Statement; decide
theorem sha3WrCount : Statement .sha3WrCount := by unfold Statement; decide
theorem updateCheck : Statement .updateCheck := by unfold Statement; decide
theorem m1 : Statement .m1 := by unfold Statement; decide
theorem m2 : Statement .m2 := by unfold Statement; decide
theorem m3 : Statement .m3 := by unfold Statement; decide
theorem updateImage : Statement .updateImage := by unfold Statement; decide
theorem ok : Statement .ok := by unfold Statement; decide
theorem imageData : Statement .imageData := by unfold Statement; decide
theorem orgChallenge : Statement .orgChallenge := by unfold Statement; decide
theorem deviceChallenge : Statement .deviceChallenge := by unfold Statement; decide
theorem orgResponse : Statement .orgResponse := by unfold Statement; decide

end Sys2Proof.Laws.LegalCode
end

