-- ==== Sys2Proof/Laws/Step.lean ====
section
/-! SUPPORT. What one step can do: `step` at each kind of position, and the inversion lemma `step_result_cases`, from which
every invariant is to be derived. -/

namespace Sys2Proof.Machine

/-- The transaction at a position of an engine procedure decodes to itself. -/
theorem decode_procInstr {p : Proc} {i : Instr} (h : procInstr p = some i) : decode (encode i) = .ok i := by
  have hw : ∀ j : Fin 16, decode (encode (.rsaWrData j)) = .ok (.rsaWrData j) := by decide
  have hr : ∀ j : Fin 16, decode (encode (.rsaRdData j)) = .ok (.rsaRdData j) := by decide
  cases p <;> simp only [procInstr, Option.some.injEq, reduceCtorEq] at h <;> subst h
  case rsaWrData j => exact hw j
  case rsaRdData j => exact hr j
  all_goals decide

theorem runCode_ok {c : Code} {i : Instr} (h : decode c = .ok i) (s : State) : runCode c s = exec i s := by
  simp [runCode, h]

theorem runCode_error {c : Code} {e : DecodeError} (h : decode c = .error e) (s : State) :
    runCode c s = s.rejectCode c e := by
  simp [runCode, h]

/-! ### The step at each kind of position -/

theorem step_reset {s : State} (h : s.env.resetIn = true) : step s = .next s.applyReset := by simp [step, h]

theorem step_request {s : State} {d : BitVec 10} (hr : s.env.resetIn = false) (h : s.env.busRequest = some d) :
    step s = runCode (.bus d) s.dropRequest := by
  simp [step, hr, h]

theorem step_fetch {s : State} {c : Code} (hr : s.env.resetIn = false) (hq : s.env.busRequest = none)
    (h : fetch s = some c) : step s = runCode c s := by
  simp [step, hr, hq, h]

theorem step_silent {s : State} (hr : s.env.resetIn = false) (hq : s.env.busRequest = none)
    (h : fetch s = none) : step s = s.silentStep := by
  simp [step, hr, hq, h]

theorem step_idle {s : State} (hr : s.env.resetIn = false) (hq : s.env.busRequest = none)
    (hb : s.port.busy = false) (hp : s.env.program = []) : step s = .next s := by
  rw [step_silent hr hq (by simp [fetch, hb, hp])]
  simp [State.silentStep, hb]

theorem step_presented {s : State} {l : HostLine} {rest : List HostLine} (hr : s.env.resetIn = false)
    (hq : s.env.busRequest = none) (hb : s.port.busy = false) (hp : s.env.program = l :: rest) :
    step s = runCode (.cmd l.word) s :=
  step_fetch hr hq (by simp [fetch, hb, hp])

theorem step_proc {s : State} {i : Instr} (hs : Safety.Running s) (h : procInstr s.seq.proc = some i) :
    step s = exec i s := by
  obtain ⟨hb, hr, hq⟩ := hs
  rw [step_fetch hr hq (c := encode i) (by simp [fetch, hb, h]), runCode_ok (decode_procInstr h)]

theorem procInstr_eq_none {p : Proc} : procInstr p = none ↔ p = .idle := by cases p <;> simp [procInstr]

theorem step_filling {s : State} (hs : Safety.Running s) (h : s.seq.proc = .idle) (hf : s.rsa.filling = true) :
    step s = .next s.fillStep := by
  obtain ⟨hb, hr, hq⟩ := hs
  rw [step_silent hr hq (by simp [fetch, hb, h, procInstr, hf])]
  simp [State.silentStep, hb, hf]

theorem step_message {s : State} {t : BitVec 8} {i : Instr} (hs : Safety.Running s) (h : s.seq.proc = .idle)
    (hf : s.rsa.filling = false) (ht : sessionTag s.seq.sess s.seq.phase = some t) (hi : decodeMsg t = .ok i) :
    step s = exec i s := by
  obtain ⟨hb, hr, hq⟩ := hs
  rw [step_fetch hr hq (c := .msg t) (by simp [fetch, hb, h, procInstr, hf, ht]),
    runCode_ok (c := .msg t) hi]

theorem step_silent_place {s : State} (hs : Safety.Running s) (h : s.seq.proc = .idle)
    (hf : s.rsa.filling = false) (ht : sessionTag s.seq.sess s.seq.phase = none) : step s = s.silentStep := by
  obtain ⟨hb, hr, hq⟩ := hs
  exact step_silent hr hq (by simp [fetch, hb, h, procInstr, hf, ht])

/-- The tags that the session's places select are all listed in R69. -/
theorem decodeMsg_sessionTag {x : SessState} {p : Phase} {t : BitVec 8} (h : sessionTag x p = some t) :
    ∃ i, decodeMsg t = .ok i := by
  cases x <;> cases p <;> simp only [sessionTag, Option.some.injEq, reduceCtorEq] at h <;> subst h <;>
    exact ⟨_, rfl⟩

/-! ### Inversion -/

/-- What a reset leaves of the state before it: the parameters, the staged bytes and the environment but for the count of
free values taken; all else is `State.resetWith`'s, the windows free. -/
theorem State.applyReset_eq (s : State) :
    s.applyReset =
      { State.resetWith s.cfg with
        rsaWin := freeRsaWindow (s.env.draws + 1)
        shaWin := freeShaWindow (s.env.draws + 1)
        stage := s.stage
        env := { s.env with draws := s.env.draws + 1 } } := rfl

@[simp] theorem State.applyReset_cfg (s : State) : s.applyReset.cfg = s.cfg := rfl
@[simp] theorem State.applyReset_port (s : State) : s.applyReset.port = ⟨false, 0, [], .none, []⟩ := rfl
@[simp] theorem State.applyReset_seq (s : State) : s.applyReset.seq = ⟨.runIdle, .noSession, .idle, .start⟩ := rfl
@[simp] theorem State.applyReset_book (s : State) : s.applyReset.book = ⟨true, false, false⟩ := rfl
@[simp] theorem State.applyReset_err (s : State) : s.applyReset.err = ErrRec.clear := rfl
@[simp] theorem State.applyReset_rsaWin (s : State) : s.applyReset.rsaWin = freeRsaWindow (s.env.draws + 1) := rfl
@[simp] theorem State.applyReset_shaWin (s : State) : s.applyReset.shaWin = freeShaWindow (s.env.draws + 1) := rfl
@[simp] theorem State.applyReset_stage (s : State) : s.applyReset.stage = s.stage := rfl
@[simp] theorem State.applyReset_env (s : State) :
    s.applyReset.env = { s.env with draws := s.env.draws + 1 } := rfl

/-- Everything a step can do when no bus access is asked for: the reset; nothing, between commands; a presented word,
legal or illegal; a transaction of an engine procedure; a filler draw; a message's rule; a silent step. -/
theorem step_result_cases {s : State} (hq : s.env.busRequest = none) :
    (s.env.resetIn = true ∧ step s = .next s.applyReset) ∨
    (s.env.resetIn = false ∧ s.port.busy = false ∧ s.env.program = [] ∧ step s = .next s) ∨
    (∃ l rest i, s.env.resetIn = false ∧ s.port.busy = false ∧ s.env.program = l :: rest ∧
      decodeCmd l.word = .ok i ∧ step s = exec i s) ∨
    (∃ l rest e, s.env.resetIn = false ∧ s.port.busy = false ∧ s.env.program = l :: rest ∧
      decodeCmd l.word = .error e ∧ step s = s.illegalCommand) ∨
    (∃ i, Safety.Running s ∧ procInstr s.seq.proc = some i ∧ step s = exec i s) ∨
    (Safety.Running s ∧ s.seq.proc = .idle ∧ s.rsa.filling = true ∧ step s = .next s.fillStep) ∨
    (∃ t i, Safety.Running s ∧ s.seq.proc = .idle ∧ s.rsa.filling = false ∧
      sessionTag s.seq.sess s.seq.phase = some t ∧ decodeMsg t = .ok i ∧ step s = exec i s) ∨
    (Safety.Running s ∧ s.seq.proc = .idle ∧ s.rsa.filling = false ∧
      sessionTag s.seq.sess s.seq.phase = none ∧ step s = s.silentStep) := by
  cases hr : s.env.resetIn
  case true => exact .inl ⟨rfl, step_reset hr⟩
  refine .inr ?_
  cases hb : s.port.busy
  case false =>
    cases hp : s.env.program with
    | nil => exact .inl ⟨rfl, rfl, rfl, step_idle hr hq hb hp⟩
    | cons l rest =>
      have hs := step_presented hr hq hb hp
      cases hd : decodeCmd l.word with
      | ok i =>
        exact .inr (.inl ⟨l, rest, i, rfl, rfl, rfl, hd, by rw [hs, runCode_ok (c := .cmd l.word) hd]⟩)
      | error e =>
        exact .inr (.inr (.inl ⟨l, rest, e, rfl, rfl, rfl, hd, by
          rw [hs, runCode_error (c := .cmd l.word) hd]; rfl⟩))
  case true =>
    have hs : Safety.Running s := ⟨hb, hr, hq⟩
    refine .inr (.inr (.inr ?_))
    cases hp : procInstr s.seq.proc with
    | some i => exact .inl ⟨i, hs, rfl, step_proc hs hp⟩
    | none =>
      refine .inr ?_
      have hi : s.seq.proc = .idle := procInstr_eq_none.mp hp
      cases hf : s.rsa.filling
      case true => exact .inl ⟨hs, hi, rfl, step_filling hs hi hf⟩
      refine .inr ?_
      cases ht : sessionTag s.seq.sess s.seq.phase with
      | none => exact .inr ⟨hs, hi, rfl, rfl, step_silent_place hs hi hf ht⟩
      | some t =>
        obtain ⟨i, h⟩ := decodeMsg_sessionTag ht
        exact .inl ⟨t, i, hs, hi, rfl, rfl, h, step_message hs hi hf ht h⟩

/-- A message's instruction is one of the ten message rows. -/
theorem decodeMsg_ok {t : BitVec 8} {i : Instr} (h : decodeMsg t = .ok i) :
    i = .updateCheck ∨ i = .m1 ∨ i = .m2 ∨ i = .m3 ∨ i = .updateImage ∨ i = .ok ∨ i = .imageData ∨
    i = .orgChallenge ∨ i = .deviceChallenge ∨ i = .orgResponse := by
  unfold decodeMsg at h
  split at h <;> simp_all

/-- A command word's instruction is one of the five commands. -/
theorem decodeCmd_ok {w : BitVec 32} {i : Instr} (h : decodeCmd w = .ok i) :
    (∃ k, i = .rsaEncrypt k) ∨ (∃ k, i = .rsaDecrypt k) ∨ i = .sha3Reset ∨ (∃ b, i = .sha3Hash b) ∨
    i = .protoRun := by
  have keyed : ∀ f : KeySlot → Instr, keyedCmd w f = .ok i → ∃ k, i = f k := by
    intro f hf
    unfold keyedCmd at hf
    split at hf
    · cases hf
    · unfold keyOfCode at hf
      split at hf <;> simp only [Except.map, reduceCtorEq, Except.ok.injEq] at hf <;> exact ⟨_, hf.symm⟩
  have plain : ∀ j : Instr, plainCmd w j = .ok i → i = j := by
    intro j hj
    unfold plainCmd at hj
    split at hj
    · cases hj
    · split at hj
      · cases hj
      · split at hj <;> cases hj; rfl
  unfold decodeCmd at h
  split at h
  · cases h
  · split at h
    · exact .inl (keyed _ h)
    · exact .inr (.inl (keyed _ h))
    · exact .inr (.inr (.inl (plain _ h)))
    · split at h
      · cases h
      · split at h
        · cases h
        · cases h; exact .inr (.inr (.inr (.inl ⟨_, rfl⟩)))
    · exact .inr (.inr (.inr (.inr (plain _ h))))
    · cases h

/-! ### Runs of several steps -/

theorem steps_zero (s : State) : Safety.steps 0 s = .next s := rfl

theorem steps_succ (k : Nat) (s : State) :
    Safety.steps (k + 1) s =
      match step s with
      | .next t => Safety.steps k t
      | .fault f => .fault f
      | .refused r => .refused r := by
  have hs : ∀ u, step s = u → Host.Core.step Sys2Proof.core s = u := fun _ h => h
  show Host.Core.run Sys2Proof.core (k + 1) s = _
  simp only [Host.Core.run]
  cases h : step s <;> rw [hs _ h] <;> rfl

theorem steps_succ_next {k : Nat} {s t : State} (h : step s = .next t) :
    Safety.steps (k + 1) s = Safety.steps k t := by rw [steps_succ, h]

theorem steps_add {j k : Nat} {s t : State} (h : Safety.steps j s = .next t) :
    Safety.steps (j + k) s = Safety.steps k t := by
  induction j generalizing s with
  | zero => cases h; simp
  | succ j ih =>
    rw [Nat.add_right_comm, steps_succ]
    rw [steps_succ] at h
    cases hs : step s with
    | next u => rw [hs] at h; exact ih h
    | fault f => rw [hs] at h; cases h
    | refused r => rw [hs] at h; cases h

end Sys2Proof.Machine
end

