-- ==== Sys2Proof/Machine/Assembler.lean ====
section
/-! DEFINITION. The textual syntax of host programs and its pseudo-commands (30_encoding R74, R75). The host's tool, not
a part of ZU-CORE: a line becomes the command word and `arg_data` the host presents. -/

namespace Sys2Proof.Machine

/-- A line of a host program (R74), or a pseudo-command (R75). -/
inductive AsmLine
  | rsaEncrypt (key : KeySlot) (data : Bytes)
  | rsaDecrypt (key : KeySlot) (data : Bytes)
  | sha3Reset
  | sha3Hash (hex : Bool) (data : Bytes)
  | protoRun
  | decrypt (data : Bytes)
  | hash (data : Bytes)
  | hashx (data : Bytes)
  | encryptGu (data : Bytes)
  | encryptGc (data : Bytes)
deriving DecidableEq, Repr

/-- The expansion of a pseudo-command (R75); a command stands for itself. -/
def expandLine : AsmLine → AsmLine
  | .decrypt d => .rsaDecrypt .devicePrivate d
  | .hash d => .sha3Hash false d
  | .hashx d => .sha3Hash true d
  | .encryptGu d => .rsaEncrypt .updatingOrgPublic d
  | .encryptGc d => .rsaEncrypt .confirmingOrgPublic d
  | .rsaEncrypt k d => .rsaEncrypt k d
  | .rsaDecrypt k d => .rsaDecrypt k d
  | .sha3Reset => .sha3Reset
  | .sha3Hash h d => .sha3Hash h d
  | .protoRun => .protoRun

/-- The instruction of a line, after expansion. -/
def lineInstr : AsmLine → Instr
  | .rsaEncrypt k _ => .rsaEncrypt k
  | .rsaDecrypt k _ => .rsaDecrypt k
  | .sha3Reset => .sha3Reset
  | .sha3Hash h _ => .sha3Hash h
  | .protoRun => .protoRun
  | .decrypt _ => .rsaDecrypt .devicePrivate
  | .hash _ => .sha3Hash false
  | .hashx _ => .sha3Hash true
  | .encryptGu _ => .rsaEncrypt .updatingOrgPublic
  | .encryptGc _ => .rsaEncrypt .confirmingOrgPublic

/-- The `arg_data` of a line. -/
def lineData : AsmLine → Bytes
  | .rsaEncrypt _ d | .rsaDecrypt _ d | .sha3Hash _ d | .decrypt d | .hash d | .hashx d | .encryptGu d
  | .encryptGc d => d
  | .sha3Reset | .protoRun => []

/-- What the host presents for a line (R74): its command word (R65) and its operand. -/
def assemble (l : AsmLine) : HostLine := ⟨(lineInstr l).word, lineData l⟩

/-! ### Reading a line of text (log 32) -/

/-- The value of a hexadecimal digit. -/
def hexValue (c : Char) : Option Nat :=
  if 48 ≤ c.toNat ∧ c.toNat ≤ 57 then some (c.toNat - 48)
  else if 97 ≤ c.toNat ∧ c.toNat ≤ 102 then some (c.toNat - 87)
  else if 65 ≤ c.toNat ∧ c.toNat ≤ 70 then some (c.toNat - 55)
  else none

/-- Hex pairs, first byte first. -/
def parseHexPairs : List Char → Option Bytes
  | [] => some []
  | [_] => none
  | a :: b :: rest =>
    match hexValue a, hexValue b, parseHexPairs rest with
    | some x, some y, some bs => some (BitVec.ofNat 8 (16 * x + y) :: bs)
    | _, _, _ => none

/-- The characters of a quoted string after its opening quote, as ASCII bytes; the closing quote ends the line. -/
def parseQuoted : List Char → Option Bytes
  | [] => none
  | [c] => if c.toNat = 34 then some [] else none
  | c :: rest =>
    if c.toNat = 34 then none
    else if 128 ≤ c.toNat then none
    else (parseQuoted rest).map (BitVec.ofNat 8 c.toNat :: ·)

/-- `<data>` (R74): a quoted ASCII string, or 0x and hex pairs. -/
def parseData : List Char → Option Bytes
  | '0' :: 'x' :: rest => parseHexPairs rest
  | c :: rest => if c.toNat = 34 then parseQuoted rest else none
  | [] => none

/-- The text before the first space, and the text after it. -/
def splitSpace : List Char → List Char × List Char
  | [] => ([], [])
  | ' ' :: rest => ([], rest)
  | c :: rest => (c :: (splitSpace rest).1, (splitSpace rest).2)

/-- `<key>` with the comma after it (R74). -/
def parseKey (t : List Char) : Option KeySlot :=
  if t = ['D', 'e', 'v', 'i', 'c', 'e', 'P', 'r', 'i', 'v', 'a', 't', 'e', ','] then some .devicePrivate
  else if t = ['U', 'p', 'd', 'a', 't', 'i', 'n', 'g', 'O', 'r', 'g', 'P', 'u', 'b', 'l', 'i', 'c', ','] then
    some .updatingOrgPublic
  else if t = ['C', 'o', 'n', 'f', 'i', 'r', 'm', 'i', 'n', 'g', 'O', 'r', 'g', 'P', 'u', 'b', 'l', 'i', 'c', ','] then
    some .confirmingOrgPublic
  else none

/-- `raw` or `hex` with the comma after it (R74). -/
def parseForm (t : List Char) : Option Bool :=
  if t = ['r', 'a', 'w', ','] then some false else if t = ['h', 'e', 'x', ','] then some true else none

/-- A line with a first operand read by `f` and data after it. -/
def parseTwo {α : Type} (f : List Char → Option α) (mk : α → Bytes → AsmLine) (t : List Char) : Option AsmLine :=
  match f (splitSpace t).1, parseData (splitSpace t).2 with
  | some a, some d => some (mk a d)
  | _, _ => none

/-- A line of a host program: its mnemonic, one space, its operands, `, ` between two of them (R74). -/
def parseLine (text : List Char) : Option AsmLine :=
  let m := (splitSpace text).1
  let t := (splitSpace text).2
  if m = ['R', 'S', 'A', '_', 'E', 'N', 'C', 'R', 'Y', 'P', 'T'] then parseTwo parseKey .rsaEncrypt t
  else if m = ['R', 'S', 'A', '_', 'D', 'E', 'C', 'R', 'Y', 'P', 'T'] then parseTwo parseKey .rsaDecrypt t
  else if m = ['S', 'H', 'A', '3', '_', 'R', 'E', 'S', 'E', 'T'] then if t = [] then some .sha3Reset else none
  else if m = ['S', 'H', 'A', '3', '_', 'H', 'A', 'S', 'H'] then parseTwo parseForm .sha3Hash t
  else if m = ['P', 'R', 'O', 'T', 'O', '_', 'R', 'U', 'N'] then if t = [] then some .protoRun else none
  else if m = ['D', 'E', 'C', 'R', 'Y', 'P', 'T'] then (parseData t).map .decrypt
  else if m = ['H', 'A', 'S', 'H'] then (parseData t).map .hash
  else if m = ['H', 'A', 'S', 'H', 'X'] then (parseData t).map .hashx
  else if m = ['E', 'N', 'C', 'R', 'Y', 'P', 'T', '_', 'G', 'U'] then (parseData t).map .encryptGu
  else if m = ['E', 'N', 'C', 'R', 'Y', 'P', 'T', '_', 'G', 'C'] then (parseData t).map .encryptGc
  else none

end Sys2Proof.Machine
end

