-- ==== Sys2Proof/Tests/Slice0.lean ====
section
/-! SUPPORT. Tests with results from spec/ (the vectors of 95_test_vectors and the tables of 30_encoding), each about one
function or one step; and for every statement with hypotheses a witness that they can be met. -/

namespace Sys2Proof.Tests

open Sys2Proof.Machine Sys2Proof.Safety

/-! ### The WellFormed checks, each with a term it refuses (30_encoding section 5, V-ENC-2, V-ENC-3) -/

theorem test_wellformed_opcode :
    (Code.cmd 0x00000000).wellFormed = false ∧ (Code.cmd 0x00000006).wellFormed = false ∧
    (Code.cmd 0x000000FF).wellFormed = false := by decide
theorem test_wellformed_key :
    (Code.cmd 0x00000301).wellFormed = false ∧ (Code.cmd 0x00000302).wellFormed = false := by decide
theorem test_wellformed_stray_key :
    (Code.cmd 0x00000103).wellFormed = false ∧ (Code.cmd 0x00000104).wellFormed = false ∧
    (Code.cmd 0x00000105).wellFormed = false := by decide
theorem test_wellformed_stray_hex :
    (Code.cmd 0x00000401).wellFormed = false ∧ (Code.cmd 0x00000403).wellFormed = false ∧
    (Code.cmd 0x00000405).wellFormed = false := by decide
theorem test_wellformed_reserved_bits :
    (Code.cmd 0x00000801).wellFormed = false ∧ (Code.cmd 0x80000004).wellFormed = false := by decide
theorem test_wellformed_descriptor :
    (Code.bus 0x044).wellFormed = false ∧ (Code.bus 0x32C).wellFormed = false ∧ (Code.bus 0x240).wellFormed = false ∧
    (Code.bus 0x102).wellFormed = false := by decide
theorem test_wellformed_tag :
    (Code.msg 0x17).wellFormed = false ∧ (Code.msg 0x20).wellFormed = false ∧ (Code.msg 0x24).wellFormed = false := by
  decide

/-! ### Decoding: a word written out for every constructor (V-ENC-1, V-ENC-3, R67, R69) -/

theorem test_decode_commands :
    decode (.cmd 0x00000001) = .ok (.rsaEncrypt .devicePrivate) ∧
    decode (.cmd 0x00000101) = .ok (.rsaEncrypt .updatingOrgPublic) ∧
    decode (.cmd 0x00000201) = .ok (.rsaEncrypt .confirmingOrgPublic) ∧
    decode (.cmd 0x00000002) = .ok (.rsaDecrypt .devicePrivate) ∧
    decode (.cmd 0x00000202) = .ok (.rsaDecrypt .confirmingOrgPublic) ∧
    decode (.cmd 0x00000003) = .ok .sha3Reset ∧ decode (.cmd 0x00000004) = .ok (.sha3Hash false) ∧
    decode (.cmd 0x00000404) = .ok (.sha3Hash true) ∧ decode (.cmd 0x00000005) = .ok .protoRun := by decide
theorem test_decode_command_errors :
    decode (.cmd 0x000000FF) = .error .badOpcode ∧ decode (.cmd 0x00000302) = .error .badKey ∧
    decode (.cmd 0x00000104) = .error .strayKey ∧ decode (.cmd 0x00000403) = .error .strayHex ∧
    decode (.cmd 0x00000801) = .error .reservedBits := by decide
theorem test_decode_rsa_window :
    decode (.bus 0x100) = .ok (.rsaWrData 0) ∧ decode (.bus 0x114) = .ok (.rsaWrData 5) ∧
    decode (.bus 0x13C) = .ok (.rsaWrData 15) ∧ decode (.bus 0x140) = .ok .rsaWrKeysel ∧
    decode (.bus 0x144) = .ok .rsaWrStart ∧ decode (.bus 0x040) = .ok .rsaRdStatus ∧
    decode (.bus 0x000) = .ok (.rsaRdData 0) ∧ decode (.bus 0x03C) = .ok (.rsaRdData 15) ∧
    decode (.bus 0x148) = .ok .rsaWrStop ∧ decode (.bus 0x044) = .error .reservedOffset ∧
    decode (.bus 0x048) = .error .reservedOffset := by decide
theorem test_decode_sha3_window :
    decode (.bus 0x304) = .ok .sha3WrReset ∧ decode (.bus 0x308) = .ok .sha3WrStart ∧
    decode (.bus 0x20C) = .ok .sha3RdReady ∧ decode (.bus 0x210) = .ok .sha3RdFull ∧
    decode (.bus 0x22C) = .ok .sha3RdDigest ∧ decode (.bus 0x340) = .ok .sha3WrFifo ∧
    decode (.bus 0x348) = .ok .sha3WrCount ∧ decode (.bus 0x32C) = .error .reservedOffset ∧
    decode (.bus 0x240) = .error .reservedOffset ∧ decode (.bus 0x305) = .error .misaligned := by decide
theorem test_decode_messages :
    decode (.msg 0x10) = .ok .updateCheck ∧ decode (.msg 0x11) = .ok .m1 ∧ decode (.msg 0x12) = .ok .m2 ∧
    decode (.msg 0x13) = .ok .m3 ∧ decode (.msg 0x14) = .ok .updateImage ∧ decode (.msg 0x15) = .ok .ok ∧
    decode (.msg 0x16) = .ok .imageData ∧ decode (.msg 0x21) = .ok .orgChallenge ∧
    decode (.msg 0x22) = .ok .deviceChallenge ∧ decode (.msg 0x23) = .ok .orgResponse ∧
    decode (.msg 0x17) = .error .unknownTag := by decide
theorem test_table_word : decodeTableWord 32 0x404 = some (.sha3Hash true) ∧
    decodeTableWord 16 0x22C = some .sha3RdDigest ∧ decodeTableWord 8 0x23 = some .orgResponse ∧
    decodeTableWord 32 0x302 = none := by decide

/-! ### Assembler (R74, R75, V-ENC-1) -/

theorem test_pseudo_commands :
    expandLine (.decrypt [1]) = .rsaDecrypt .devicePrivate [1] ∧ expandLine (.hashx [1]) = .sha3Hash true [1] ∧
    (assemble (.encryptGu [1])).word = 0x00000101 ∧ (assemble (.encryptGc [1])).word = 0x00000201 ∧
    (assemble (.hash [])).word = 0x00000004 := by decide
theorem test_parse_line :
    parseLine "SHA3_HASH hex, \"EETT\"".toList = some (.sha3Hash true [0x45, 0x45, 0x54, 0x54]) ∧
    parseLine "RSA_DECRYPT DevicePrivate, 0x00aB".toList = some (.rsaDecrypt .devicePrivate [0x00, 0xAB]) ∧
    parseLine "SHA3_RESET x".toList = none := by decide

/-! ### Pure functions -/

/-- V-ENC-4. -/
theorem test_packing :
    words [0x45, 0x45, 0x54, 0x54] = [0x45455454] ∧ beBytes 0x0002ABCD = [0x00, 0x02, 0xAB, 0xCD] := by decide
/-- V-RSA-1. -/
theorem test_seg_count :
    [0, 1, 12, 13, 52, 53, 54, 68, 80, 106, 107, 750, 9999].map (fun n => (n + 52) / 53) =
      [0, 1, 1, 1, 1, 1, 2, 2, 2, 2, 3, 15, 189] ∧ segCount (List.replicate 54 0) = 2 ∧ segCount [] = 0 := by decide
/-- V-RSA-3. -/
theorem test_pad_block :
    words (padBlock [0x48, 0x65, 0x6C, 0x6C, 0x6F, 0x2C, 0x20, 0x77, 0x6F, 0x72, 0x6C, 0x64, 0x21]
      [0xF0, 0xF1, 0xF2, 0xF3, 0xF4, 0xF5, 0xF6, 0xF7]) =
    [0x0002F0F1, 0xF2F3F4F5, 0xF6F70028] ++ List.replicate 9 0x28282828 ++
    [0x28282848, 0x656C6C6F, 0x2C20776F, 0x726C6421] := by decide
/-- V-RSA-6. -/
theorem test_strip :
    strip [1, 1, 0x78] = [1, 0x78] ∧ strip [2, 2, 0x61] = [0x61] ∧ strip [2, 1, 0x61] = [2, 1, 0x61] ∧
    strip [0, 0x61] = [0, 0x61] ∧ strip [3, 3, 3] = [] ∧ strip [3, 3] = [3, 3] ∧
    strip [2, 2, 2, 2, 0x61] = [2, 2, 0x61] ∧ strip [0xFF, 1] = [0xFF, 1] ∧ strip [] = [] := by decide
/-- V-RSA-14. -/
theorem test_hdr_ok :
    hdrOk (padBlock [1] (List.replicate 8 0x11)) = true ∧
    hdrOk ([0, 1] ++ List.replicate 8 0x11 ++ List.replicate 54 0) = false ∧
    hdrOk ([0, 2, 0x11, 0x11, 0x11, 0, 0x11, 0x11, 0x11, 0x11] ++ List.replicate 54 0) = false ∧
    hdrOk ([0, 2] ++ List.replicate 8 0x11 ++ [1] ++ List.replicate 53 0) = false := by decide
/-- V-SHA-1, V-SHA-3. -/
theorem test_sha_pad :
    (shaPad []).length = 64 ∧ (shaPad (List.replicate 64 0x41)).length = 128 ∧
    wordAt (shaPad (List.replicate 60 0x41 ++ [0x41, 0x42, 0x43])) 15 = 0x414243FF ∧
    wordAt (shaPad [0x41, 0x42, 0x43]) 0 = 0x414243FF ∧ wordAt (shaPad [0x41, 0x42, 0x43]) 1 = 0xFFFFFFFF := by
  decide +kernel
/-- V-SHA-5. -/
theorem test_hex_enc : hexEnc [0x00, 0x0F, 0x3A] = [0x30, 0x30, 0x30, 0x66, 0x33, 0x61] := by decide
/-- V-PR-12. -/
theorem test_attest_forms :
    attestEq .raw64 [0xAB] [0xAB] = true ∧ attestEq .raw64 [0xAB] [0x61, 0x62] = false ∧
    attestEq .hex128 [0xAB] [0x61, 0x62] = true := by decide
/-- V-ENC-5. -/
theorem test_frame :
    frame exCodec (exCodec.serUpdateCheck ⟨7, 0xD0D0CAFE⟩) = [0, 8, 0, 0, 0, 7, 0xD0, 0xD0, 0xCA, 0xFE] := by decide

/-- Rows of R144, R145 and R149. -/
theorem test_error_codes :
    (Cause.imageTooLarge.kind.code = 1 ∧ Cause.imageTooLarge.sub = 8) ∧
    ((Cause.keySlotMisuse).kind.code = 2 ∧ Cause.keySlotMisuse.sub = 4) ∧
    (Cause.nonceMismatch.kind.code = 3 ∧ Cause.nonceMismatch.sub = 1) ∧
    (Cause.timeout.kind.code = 4 ∧ Cause.timeout.sub = 2) ∧
    ((Cause.attestMismatch 1).kind.code = 5 ∧ (Cause.attestMismatch 1).sub = 3) ∧
    (Cause.cancelled.kind.code = 6 ∧ Cause.cancelled.sub = 0) ∧ ErrRec.clear.kind.code = 0 ∧
    ResStatus.illegal.code = 3 := by decide

/-! ### The vectors' configuration, and small states -/

/-- EXCFG of 95_test_vectors section 2. -/
def exCfg : Params :=
  { rsaBase := 0, shaBase := 0, keyIndex := ⟨0, 1, 2⟩, rsaDone := 1, shaReady := 1, shaResetValue := 1
    shaStartValue := 1, pollMax := 3, pollInterval := 0, netTimeout := 0, deviceId := 0xD0D0CAFE
    fwVersion := 0x00000007, nOrgs := 2, codec := .exCodec, stageCap := 65536, attestEnc := .raw64
    confirmFail := .abort, hdrCheck := .strict, hdrSizeOrder := .mostSignificantFirst }

/-- After reset with EXCFG. -/
def idle : State := State.resetWith exCfg

/-- Idle with a line presented. -/
def presented (w : Word) (d : Bytes) : State := { idle with env := { idle.env with program := [⟨w, d⟩] } }

/-- Executing `cmd`, at a position. -/
def running (cmd : Word) (q : Seq) : State := { idle with port := { idle.port with busy := true, cmd := cmd }, seq := q }

/-- In an engine procedure of a command. -/
def inProc (p : Proc) : State := running 0x00000002 ⟨.runIdle, .noSession, p, .engine⟩

/-- In the updating organization's session. -/
def inSession (x : SessState) (p : Phase) : State := running 0x00000005 ⟨.runGU, x, .idle, p⟩

/-- In validation. -/
def inValidation (r : RunState) : State := running 0x00000005 ⟨r, .noSession, .idle, .start⟩

/-- With the transport's next answers. -/
def answering (recv : List RecvAnswer) (send : List SendAnswer) (s : State) : State :=
  { s with env := { s.env with recv := recv, send := send } }

/-- With the status answers. -/
def reading (rsa sha : List Word) (s : State) : State := { s with env := { s.env with rsaStatus := rsa, shaReady := sha } }

/-- What a test looks at in a next state. -/
def after (o : Host.Outcome State Fault Refusal) (f : State → Bool) : Bool :=
  match o with
  | .next t => f t
  | .fault _ => false
  | .refused _ => false

/-! ### One step of each instruction -/

/-- V-RSA-8. -/
theorem test_rsa_encrypt_misuse :
    after (step (presented 0x00000001 [0x78])) (fun t =>
      t.port.resStatus == .fail && t.err == ⟨some .keySlotMisuse, none, some (.run .runIdle)⟩ && !t.port.busy) = true := by
  decide
/-- V-RSA-19. -/
theorem test_rsa_encrypt_empty :
    after (step (presented 0x00000101 [])) (fun t => t.port.resStatus == .ok && t.port.resData == []) = true := by decide
/-- V-RSA-9. -/
theorem test_rsa_decrypt_bad_length :
    after (step (presented 0x00000002 (List.replicate 63 0))) (fun t => t.err.cause == some .badLength) = true := by
  decide
/-- V-RSA-8: KeySlotMisuse is checked before BadLength. -/
theorem test_rsa_decrypt_misuse_first :
    after (step (presented 0x00000202 (List.replicate 63 0))) (fun t => t.err.cause == some .keySlotMisuse) = true := by
  decide
theorem test_sha3_reset_accepted :
    after (step (presented 0x00000003 [])) (fun t => t.port.busy && t.seq.proc == .shaWrReset) = true := by decide
/-- V-SHA-1. -/
theorem test_sha3_hash_pads :
    after (step (presented 0x00000404 (List.replicate 64 0))) (fun t => t.sha.msg.length == 128 && t.sha.hex) = true := by
  decide +kernel
theorem test_proto_run_starts :
    after (step (presented 0x00000005 [])) (fun t => t.seq.run == .runGU && t.seq.sess == .init) = true := by decide
/-- V-ENC-2; R73.1 and R33: the previous command's word and operand stay, `ready_to_install` is cleared. -/
theorem test_illegal_word :
    after (step { presented 0x00000302 [7] with
      port := ⟨false, 0x00000005, [8], .ok, [9]⟩, out := { idle.out with ready := true } })
      (fun t => t.port == ⟨false, 0x00000005, [8], .illegal, []⟩ && t.err == ErrRec.clear && !t.out.ready) = true := by
  decide
/-- R88's example: word 12 of the "Hello, world!" block. -/
theorem test_rsa_wr_data :
    after (step { inProc (.rsaWrData 12) with
      rsa := { idle.rsa with inp := zeroBlock.set 12 0x28282848 } })
      (fun t => t.rsaWin.din[12] == 0x28282848 && t.seq.proc == .rsaWrData 13) = true := by decide
/-- R89's example. -/
theorem test_rsa_wr_keysel :
    after (step { inProc .rsaWrKey with rsa := { idle.rsa with key := .updatingOrgPublic } })
      (fun t => t.rsaWin.keysel == 1 && t.seq.proc == .rsaWrStart) = true := by decide
theorem test_rsa_wr_start :
    after (step (inProc .rsaWrStart)) (fun t => t.rsaWin.start == 1 && t.seq.proc == .rsaPoll 1) = true := by decide
/-- V-RSA-18, the third status read. -/
theorem test_rsa_rd_status_done :
    after (step (reading [1] [] { inProc (.rsaPoll 3) with rsa := { idle.rsa with pollcnt := 2 } }))
      (fun t => t.seq.proc == .rsaRdData 0) = true := by decide
/-- V-RSA-17. -/
theorem test_rsa_rd_status_timeout :
    after (step (reading [0] [] { inProc (.rsaPoll 3) with rsa := { idle.rsa with pollcnt := 2 } }))
      (fun t => t.err.cause == some (.hardwareTimeout .rsa) && t.book.suspectRsa && t.port.resStatus == .fail) = true := by
  decide
/-- R92's example. -/
theorem test_rsa_rd_data :
    after (step { inProc (.rsaRdData 3) with rsaWin := { idle.rsaWin with dout := zeroBlock.set 3 0x0002ABCD } })
      (fun t => beBytes t.rsa.out[3] == [0x00, 0x02, 0xAB, 0xCD] && t.seq.proc == .rsaRdData 4) = true := by decide
/-- V-SHA-8. -/
theorem test_sha3_wr_reset_clears_dirty :
    after (step (running 0x00000003 ⟨.runIdle, .noSession, .shaWrReset, .engine⟩))
      (fun t => !t.book.shaDirty && t.port.resStatus == .ok) = true := by decide
/-- V-SHA-3. -/
theorem test_sha3_wr_fifo :
    after (step { inProc (.shaWrFifo 15) with
      sha := ⟨List.replicate 60 0x41 ++ [0x41, 0x42, 0x43, 0xFF], 15, [], false, 0⟩
      shaWin := { idle.shaWin with fifo := [] } })
      (fun t => t.shaWin.fifo == [0x414243FF] && t.book.shaDirty && t.seq.proc == .shaWrStart) = true := by decide
theorem test_sha3_wr_start :
    after (step (inProc .shaWrStart)) (fun t => t.shaWin.start == 1 && t.seq.proc == .shaPoll 1) = true := by decide
/-- V-SHA-6 and V-SHA-7. -/
theorem test_sha3_rd_ready :
    after (step (reading [] [1] (inProc (.shaPoll 1)))) (fun t => t.seq.proc == .shaRdDigest 0) = true ∧
    after (step (reading [] [0] { inProc (.shaPoll 3) with sha := { idle.sha with pollcnt := 2 } }))
      (fun t => t.err.cause == some (.hardwareTimeout .sha3) && t.book.suspectSha) = true := by decide
/-- R107's example. -/
theorem test_sha3_rd_digest :
    after (step { inProc (.shaRdDigest 0) with
      shaWin := { idle.shaWin with ptr := 0, digest := zeroBlock.set 0 0xDF8B3EE8 } })
      (fun t => t.sha.dig == [0xDF, 0x8B, 0x3E, 0xE8] && t.shaWin.ptr == 1 && t.seq.proc == .shaRdDigest 1) = true := by
  decide
/-- V-PR-1. -/
theorem test_update_check :
    after (step (answering [] [.sent] (inSession .init .start)))
      (fun t => t.env.sent == [[0, 8, 0, 0, 0, 7, 0xD0, 0xD0, 0xCA, 0xFE]] && t.seq.sess == .checkSent) = true := by
  decide
/-- V-PR-13. -/
theorem test_update_check_cancelled :
    after (step { inSession .init .start with env := { idle.env with cancel := true } })
      (fun t => t.err == ⟨some .cancelled, some 0, some (.sess .init)⟩ && t.env.sent == [] && !t.run.checkSent) = true := by
  decide
/-- V-PR-2. -/
theorem test_m1_frame_bounds :
    after (step { inSession .awaitM1 .start with ses := { idle.ses with rxBuf := [0x01, 0xFF] } })
      (fun t => t.err == ⟨some .frameTooLong, some 0, some (.sess .awaitM1)⟩) = true ∧
    after (step { inSession .awaitM1 .start with ses := { idle.ses with rxBuf := [0x01, 0xFE] } })
      (fun t => t.ses.rx == .body 510) = true := by decide
/-- V-PR-4, the other way: an M3 body of two blocks goes to Decrypt. -/
theorem test_m3_opens :
    after (step { inSession .awaitM3 .start with ses := { idle.ses with rx := .body 128, rxBuf := List.replicate 128 7 } })
      (fun t => t.rsa.nblk == 2 && t.seq.proc == .rsaWrData 0 && t.rsa.inp[0] == 0x07070707) = true := by
  decide +kernel
/-- R121's example. -/
theorem test_org_challenge :
    after (step { inSession .awaitM1 .opened with ses := { idle.ses with held := [0x12, 0x34, 0x56, 0x78] } })
      (fun t => t.ses.ng == 0x12345678) = true := by decide
/-- R123's example: 12 bytes, so one block. -/
theorem test_device_challenge :
    after (step { inSession .awaitM1 .nonce with
      ses := { idle.ses with ng := 0x11223344 }, env := { idle.env with nonce := [0x0000BEEF] } })
      (fun t => t.rsa.src == [0xD0, 0xD0, 0xCA, 0xFE, 0x11, 0x22, 0x33, 0x44, 0, 0, 0xBE, 0xEF] && t.rsa.nblk == 1 &&
        t.rsa.key == .updatingOrgPublic && t.ses.nd == 0x0000BEEF) = true := by decide
theorem test_m2 :
    after (step (answering [] [.sent] { inSession .awaitM1 .sealed with ses := { idle.ses with held := [9] } }))
      (fun t => t.env.sent == [[0, 1, 9]] && t.seq.sess == .challengeSent) = true := by decide
/-- R124's example. -/
theorem test_org_response :
    after (step { inSession .awaitM3 .opened with
      ses := { idle.ses with nd := 0x0000BEEF, held := [0, 0, 0xBE, 0xEF, 1] } })
      (fun t => t.seq.sess == .authenticated && t.ses.ok && t.ses.attest == []) = true ∧
    after (step { inSession .awaitM3 .opened with
      ses := { idle.ses with nd := 0x0000BEEF, held := [0, 0, 0xBE, 0xEE, 1] } })
      (fun t => t.err == ⟨some .nonceMismatch, some 0, some (.sess .awaitM3)⟩ && t.seq.sess == .failed) = true := by
  decide
/-- V-PR-8. -/
theorem test_update_image :
    after (step { inSession .awaitImageSize .start with
      ses := { idle.ses with rx := .body 4, rxBuf := [0, 1, 0, 0] } })
      (fun t => t.ses.imgSize == 65536 && t.seq.phase == .ack) = true ∧
    after (step { inSession .awaitImageSize .start with
      ses := { idle.ses with rx := .body 4, rxBuf := [0, 1, 0, 1] } })
      (fun t => t.err.cause == some .imageTooLarge) = true := by decide
theorem test_ok :
    after (step (answering [] [.sent] (inSession .imageComplete .start)))
      (fun t => t.env.sent == [[0x4F, 0x4B]] && t.seq.sess == .sessionDone) = true := by decide
/-- R127: a Recv of what remains, and the staging of a chunk at the running offset. -/
theorem test_image_data :
    after (step (answering [.data [5, 6, 7]] [] { inSession .receivingImage .start with
      ses := { idle.ses with imgSize := 12, imgRcvd := 10 } }))
      (fun t => t.ses.held == [5, 6] && t.env.recv == [.data [7]]) = true ∧
    after (step { inSession .receivingImage .chunk with
      ses := { idle.ses with imgSize := 12, imgRcvd := 10, held := [5, 6] } })
      (fun t => t.stage == [(10, 5), (11, 6)] && t.ses.imgRcvd == 12) = true := by decide
theorem test_never_issued_rows :
    step (idle.withFetchWord 16 0x148) = .refused .rsaStopNotInSource ∧
    step (idle.withFetchWord 16 0x210) = .refused .sha3FullNotInSource ∧
    step (idle.withFetchWord 16 0x348) = .refused .sha3CountNotInSource := ⟨rfl, rfl, rfl⟩

/-! ### Steps that no instruction names -/

/-- V-PR-10. -/
theorem test_short_image :
    after (step { inValidation .valParse with run := { idle.run with decImg := List.replicate 76 0 } })
      (fun t => t.err.cause == some .shortImage && t.seq.run == .runFailed) = true := by decide
/-- R151: under Continue the first confirming error is the run's, though a later session ends it with Closed. -/
theorem test_first_error_kept :
    after (step { running 0x00000005 ⟨.runGC, .failed, .idle, .start⟩ with
      cfg := { exCfg with confirmFail := .goOn, nOrgs := 4 }
      run := { idle.run with orgIdx := 2, firstGcErr := some ⟨some .nonceMismatch, some 1, some (.sess .awaitM3)⟩ }
      err := ⟨some .closed, some 2, some (.sess .awaitM1)⟩ })
      (fun t => t.err == ⟨some .nonceMismatch, some 1, some (.sess .awaitM3)⟩ && t.seq.run == .runFailed) = true := by
  decide
/-- V-PR-11. -/
theorem test_header_mismatch :
    after (step { inValidation .valCompare with
      run := { idle.run with hdr := some idle.out.installHdr, digest := List.replicate 64 1 } })
      (fun t => t.err == ⟨some .headerMismatch, some 0, some (.run .valCompare)⟩ && !t.out.ready) = true := by decide
/-- V-RST-1. -/
theorem test_reset :
    after (step { inSession .awaitM3 .start with env := { idle.env with resetIn := true } })
      (fun t => !t.port.busy && t.seq == idle.seq && t.book == ⟨true, false, false⟩ && t.err == ErrRec.clear) = true := by
  decide

/-! ### Witnesses: the hypotheses of each statement that has some can be met, clause by clause -/

/-- `idle` with an environment's inputs and answers set. -/
def withEnv (f : Env → Env) (s : State) : State := { s with env := f s.env }

theorem witness_PlacedInstructionRuns :
    codeOfBits 32 0x404 = some (.cmd 0x404) ∧ decode (.cmd 0x404) = .ok (.sha3Hash true) ∧
    codeOfBits 16 0x33C = some (.bus 0x33C) ∧ decode (.bus 0x33C) = .error .reservedOffset ∧
    codeOfBits 16 0x348 = some (.bus 0x348) ∧ decode (.bus 0x348) = .ok .sha3WrCount ∧
    codeOfBits 8 0x23 = some (.msg 0x23) ∧ decode (.msg 0x23) = .ok .orgResponse := by decide +kernel

theorem witness_StepRunsFetchedInstruction :
    (let s := presented 0x00000404 [1]
     s.env.resetIn = false ∧ s.env.busRequest = none ∧ fetch s = some (.cmd 0x404) ∧
     decode (.cmd 0x404) = .ok (.sha3Hash true) ∧ s.port.busy = false ∧ s.env.program = [⟨0x404, [1]⟩]) ∧
    (let s := inProc (.rsaWrData 15)
     s.port.busy = true ∧ procInstr s.seq.proc = some (.rsaWrData 15)) ∧
    (let s := inSession .awaitM1 .nonce
     s.port.busy = true ∧ s.seq.proc = .idle ∧ s.rsa.filling = false ∧
     sessionTag s.seq.sess s.seq.phase = some 0x22) := by decide +kernel

theorem witness_IllegalCommandWordEndsAtOnce :
    IdleReady (presented 0x00000302 [1]) ∧ (presented 0x00000302 [1]).env.program = [⟨0x00000302, [1]⟩] ∧
    (Code.cmd 0x00000302).wellFormed = false := by
  unfold IdleReady; decide +kernel

theorem witness_CommandPortGates :
    (idle.env.resetIn = false ∧ idle.env.busRequest = none ∧ idle.port.busy = false ∧ idle.env.program = []) ∧
    (decode (.cmd 0x5) = .ok .protoRun ∧ (running 0x5 idle.seq).port.busy = true) ∧
    (let s := withEnv (fun e => { e with boot := { e.boot with keysPresent := false } }) idle
     s.port.busy = false ∧ s.env.boot.met = false) ∧
    (let s := withEnv (fun e => { e with boot := { e.boot with keysPresent := false } }) (presented 0x00000302 [])
     s.env.resetIn = false ∧ s.env.busRequest = none ∧ s.port.busy = false ∧ s.env.program = ⟨0x00000302, []⟩ :: [] ∧
     (Code.cmd 0x00000302).wellFormed = false ∧ s.env.boot.met = false) ∧
    ((inProc .rsaWrKey).port.busy = true ∧ ∃ t, step (inProc .rsaWrKey) = .next t) ∧
    ((running 0x00000005 ⟨.runIdle, .noSession, .idle, .start⟩).port.busy = true ∧
     step (running 0x00000005 ⟨.runIdle, .noSession, .idle, .start⟩) = .fault .noRule) ∧
    (let s := withEnv (fun e => { e with busRequest := some 0x348 }) (inProc .rsaWrKey)
     s.port.busy = true ∧ step s = .refused .sha3CountNotInSource) :=
  ⟨by decide +kernel, by decide +kernel, by decide +kernel, by decide +kernel, ⟨rfl, _, rfl⟩, ⟨rfl, rfl⟩, rfl, rfl⟩

theorem witness_ResetTakesEveryRegister :
    (withEnv (fun e => { e with resetIn := true }) (inProc (.rsaPoll 2))).env.resetIn = true := by decide +kernel

/-- RSA_ENCRYPT of one byte with `f` of its filler drawn, and the draws to come. -/
def drawing (f e : Bytes) : State :=
  { running 0x00000101 ⟨.runIdle, .noSession, .idle, .engine⟩ with
    rsa := { idle.rsa with op := .encrypt, src := [9], nblk := 1, filler := f, filling := true }
    env := { idle.env with filler := e } }

theorem witness_RsaEncryptStarts :
    (let s := presented 0x00000101 [1]
     s.port.busy = false ∧ s.env.boot.met = true ∧ KeySlot.updatingOrgPublic ≠ .devicePrivate ∧
     s.presentedData ≠ []) ∧
    (IdleReady (presented 0x00000201 []) ∧ KeySlot.confirmingOrgPublic ≠ .devicePrivate ∧
     (presented 0x00000201 []).presentedData = []) ∧
    IdleReady (presented 0x00000001 [1]) ∧
    (let s := drawing (List.replicate 6 7) [5]
     Running s ∧ s.seq.proc = .idle ∧ s.rsa.filling = true ∧ s.rsa.filler.length < 7 ∧ s.env.filler = 5 :: [] ∧
     (5 : Byte) ≠ 0) ∧
    (let s := drawing [] (List.replicate 8 0x11 ++ [0])
     Running s ∧ s.seq.proc = .idle ∧ s.rsa.filling = true ∧ s.rsa.filler = [] ∧
     FillerValid (List.replicate 8 0x11) ∧ s.env.filler = List.replicate 8 0x11 ++ [0]) := by
  unfold IdleReady Running FillerValid; decide +kernel

theorem witness_RsaDecryptStarts :
    (let s := presented 0x00000002 (List.replicate 64 0)
     s.port.busy = false ∧ s.env.boot.met = true ∧ s.presentedData.length ≠ 0 ∧ s.presentedData.length % 64 = 0) ∧
    (IdleReady (presented 0x00000002 []) ∧ (presented 0x00000002 []).presentedData.length = 0) ∧
    (IdleReady (presented 0x00000002 (List.replicate 65 0)) ∧
     (presented 0x00000002 (List.replicate 65 0)).presentedData.length % 64 ≠ 0) ∧
    (IdleReady (presented 0x00000102 []) ∧ KeySlot.updatingOrgPublic ≠ .devicePrivate) := by
  unfold IdleReady; decide +kernel

theorem witness_Sha3ResetCompletes :
    (idle.port.busy = false ∧ idle.env.boot.met = true) ∧ IdleReady (presented 0x00000003 [7]) ∧
    (presented 0x00000003 [7]).env.program = [⟨0x00000003, [7]⟩] := by
  unfold IdleReady; decide +kernel

theorem witness_HashAndRunStart :
    (presented 0x00000005 []).port.busy = false ∧ (presented 0x00000005 []).env.boot.met = true := by decide +kernel

theorem witness_RsaDataWordsMove : (14 : Fin 16).val + 1 < 16 ∧ (0 : Fin 16).val + 1 < 16 := by decide +kernel

/-- A poll of each core at read `a`. -/
def polling (a : Nat) (rsa sha : List Word) : State :=
  reading rsa sha { inProc (.rsaPoll a) with
    rsa := { idle.rsa with pollcnt := a - 1 }, sha := { idle.sha with pollcnt := a - 1 } }

theorem witness_KeyselAndStatusAreTwoRegisters :
    (polling 1 [1, 0] []).env.rsaStatus = 1 :: [0] ∧ (polling 1 [0] []).env.rsaStatus = 0 :: [] := by decide +kernel

theorem witness_PollReadsStatus :
    (let s := polling 3 [1] [1]
     s.rsaStatusWord = s.cfg.rsaDone ∧ s.shaReadyWord = s.cfg.shaReady) ∧
    (let s := polling 2 [0] [0]
     s.rsaStatusWord ≠ s.cfg.rsaDone ∧ s.rsa.pollcnt + 1 < s.cfg.pollMax ∧ s.shaReadyWord ≠ s.cfg.shaReady ∧
     s.sha.pollcnt + 1 < s.cfg.pollMax) := by decide +kernel

theorem witness_PollTimeoutRaises :
    (let s := polling 3 [0] [0]
     s.rsaStatusWord ≠ s.cfg.rsaDone ∧ s.cfg.pollMax ≤ s.rsa.pollcnt + 1 ∧ s.shaReadyWord ≠ s.cfg.shaReady ∧
     s.cfg.pollMax ≤ s.sha.pollcnt + 1 ∧ s.seq.sess.active = false) := by decide +kernel

/-- Before the sixteenth read of block `k` of `n`, the words read so far being the block's. -/
def lastRead (op : RsaOp) (k n : Nat) (b : Block) (s : State) : State :=
  { s with
    rsa := { s.rsa with op := op, k := k, nblk := n, out := b.set 15 0 }
    rsaWin := { s.rsaWin with dout := b }
    seq := { s.seq with proc := .rsaRdData 15, phase := .engine } }

/-- A block whose header is good, on the segment [9]. -/
def goodBlock : Block := blockOfBytes (padBlock [9] (List.replicate 8 0x11))

theorem witness_DecryptBlockEnds :
    (let s := lastRead .decrypt 0 1 zeroBlock idle
     s.rsa.op = .decrypt ∧ s.cfg.hdrCheck = .strict ∧ hdrOk (unwords (s.rsa.out.set 15 s.rsaWin.dout[15]).toList) = false) ∧
    (let s := lastRead .decrypt 0 2 goodBlock idle
     hdrOk (unwords (s.rsa.out.set 15 s.rsaWin.dout[15]).toList) = true ∧ s.rsa.k + 1 < s.rsa.nblk) ∧
    (let s := lastRead .decrypt 1 2 goodBlock idle
     hdrOk (unwords (s.rsa.out.set 15 s.rsaWin.dout[15]).toList) = true ∧ s.rsa.nblk ≤ s.rsa.k + 1 ∧
     s.seq.sess.active = false ∧ s.seq.run.active = false) ∧
    (let s := lastRead .decrypt 1 2 goodBlock (inSession .awaitM1 .engine)
     hdrOk (unwords (s.rsa.out.set 15 s.rsaWin.dout[15]).toList) = true ∧ s.rsa.nblk ≤ s.rsa.k + 1 ∧
     s.seq.sess.active = true) ∧
    (let s := lastRead .decrypt 1 2 goodBlock (inValidation .valDecrypt)
     hdrOk (unwords (s.rsa.out.set 15 s.rsaWin.dout[15]).toList) = true ∧ s.rsa.nblk ≤ s.rsa.k + 1 ∧
     s.seq.sess.active = false ∧ s.seq.run = .valDecrypt) := by decide +kernel

theorem witness_EncryptBlockEnds :
    (let s := lastRead .encrypt 0 2 goodBlock idle
     s.rsa.op = .encrypt ∧ s.rsa.k + 1 < s.rsa.nblk) ∧
    (let s := lastRead .encrypt 1 2 goodBlock idle
     s.rsa.nblk ≤ s.rsa.k + 1 ∧ s.seq.sess.active = false ∧ s.seq.run.active = false) ∧
    (let s := lastRead .encrypt 1 2 goodBlock (inSession .awaitM1 .engine)
     s.rsa.nblk ≤ s.rsa.k + 1 ∧ s.seq.sess.active = true) := by decide +kernel

theorem witness_ShaStreamWrites :
    (inProc .shaWrReset).port.cmd ≠ 0x00000003 ∧
    (let s := { inProc (.shaWrFifo 15) with sha := ⟨List.replicate 63 7 ++ [8], 15, [], false, 0⟩ }
     s.sha.msg[4 * s.sha.j]? = some 7 ∧ s.sha.msg[4 * s.sha.j + 1]? = some 7 ∧
     s.sha.msg[4 * s.sha.j + 2]? = some 7 ∧ s.sha.msg[4 * s.sha.j + 3]? = some 8) := by decide +kernel

/-- Before a digest read, with `n` words read, the digest words all 0x01020304. -/
def digestAt (n : Nat) (s : State) : State :=
  { s with
    shaWin := { s.shaWin with ptr := n, digest := Vector.replicate 16 0x01020304 }
    sha := { s.sha with dig := List.replicate (4 * n) 0 }
    seq := { s.seq with proc := .shaRdDigest (Fin.ofNat 16 n), phase := .engine } }

theorem witness_Sha3RdDigestReads :
    ((digestAt 0 idle).shaWin.ptr < 16 ∧
      ((digestAt 0 idle).sha.dig ++ beBytes 0x01020304).length / 4 < 16) ∧
    ((digestAt 14 idle).shaWin.ptr < 16 ∧
      ((digestAt 14 idle).sha.dig ++ beBytes 0x01020304).length / 4 < 16) ∧
    ((digestAt 15 idle).shaWin.ptr < 16 ∧
      ((digestAt 15 idle).sha.dig ++ beBytes 0x01020304).length = 64 ∧ (digestAt 15 idle).seq.run.active = false) ∧
    ((digestAt 15 (inValidation .valHash)).shaWin.ptr < 16 ∧
      ((digestAt 15 (inValidation .valHash)).sha.dig ++ beBytes 0x01020304).length = 64 ∧
      (digestAt 15 (inValidation .valHash)).seq.run = .valHash) := by decide +kernel

theorem witness_NeverIssuedRowsRefuse :
    ((polling 3 [0] []).env.resetIn = false ∧ ∃ t, step (polling 3 [0] []) = .next t) ∧ ∃ t, exec .sha3WrFifo (inProc (.shaWrFifo 0)) = .next t :=
  ⟨⟨rfl, _, rfl⟩, _, rfl⟩

theorem witness_ReservedAccessRefused :
    (let s := withEnv (fun e => { e with busRequest := some 0x32C }) idle
     s.env.resetIn = false ∧ s.env.busRequest = some 0x32C ∧ (Code.bus 0x32C).wellFormed = false) ∧
    (let s := withEnv (fun e => { e with busRequest := some 0x305 }) idle
     s.env.resetIn = false ∧ s.env.busRequest = some 0x305 ∧ (Code.bus 0x305).wellFormed = false) ∧
    fetch (inProc (.rsaRdData 15)) = some (.bus 0x03C) := by decide +kernel

/-- With the cancel input at 1. -/
def cancelled (s : State) : State := withEnv (fun e => { e with cancel := true }) s

theorem witness_UpdateCheckSentOncePerRun :
    (let s := answering [] [.sent] (inSession .init .start)
     s.run.checkSent = false ∧ s.env.cancel = false ∧ s.sendAnswer = .sent) ∧
    (let s := cancelled (inSession .init .start)
     s.run.checkSent = false ∧ s.env.cancel = true) ∧
    (let s := answering [] [.closed] (inSession .init .start)
     s.run.checkSent = false ∧ s.env.cancel = false ∧ s.sendAnswer = .closed) ∧
    (let s := answering [] [.timeout] (inSession .init .start)
     s.run.checkSent = false ∧ s.env.cancel = false ∧ s.sendAnswer = .timeout) ∧
    ({ inSession .init .start with run := { idle.run with checkSent := true } } : State).run.checkSent = true := by
  decide +kernel

/-- Receiving, with `b` in the buffer. -/
def receiving (rx : RxPos) (b : Bytes) (a : List RecvAnswer) : State :=
  answering a [] { inSession .awaitM1 .start with ses := { idle.ses with rx := rx, rxBuf := b } }

/-- Under the codec that can reject every record. -/
def tagging (s : State) : State := { s with cfg := { s.cfg with codec := .tagged } }

theorem witness_FrameIsReceivedExactly :
    (let s := cancelled (receiving .lenField [] [])
     s.frameReady = false ∧ s.ses.rxBuf.length < s.rxWant ∧ s.env.cancel = true) ∧
    (let s := receiving .lenField [7] [.data [5, 6]]
     s.frameReady = false ∧ s.ses.rxBuf.length < s.rxWant ∧ s.env.cancel = false ∧ s.recvAnswer = .data [5, 6]) ∧
    (let s := receiving (.body 3) [7, 8] [.closed]
     s.frameReady = false ∧ s.ses.rxBuf.length < s.rxWant ∧ s.env.cancel = false ∧ s.recvAnswer = .closed) ∧
    (let s := receiving (.body 3) [7, 8] [.data []]
     s.frameReady = false ∧ s.ses.rxBuf.length < s.rxWant ∧ s.env.cancel = false ∧ s.recvAnswer = .data []) ∧
    (let s := receiving (.body 3) [7, 8] [.timeout]
     s.frameReady = false ∧ s.ses.rxBuf.length < s.rxWant ∧ s.env.cancel = false ∧ s.recvAnswer = .timeout) ∧
    (let s := tagging (receiving .lenField [0x80, 0] [])
     s.frameReady = false ∧ s.rxWant ≤ s.ses.rxBuf.length ∧ s.codec.bodyLen s.ses.rxBuf = none) ∧
    (let s := receiving .lenField [0x01, 0xFF] []
     s.frameReady = false ∧ s.rxWant ≤ s.ses.rxBuf.length ∧ s.codec.bodyLen s.ses.rxBuf = some 511 ∧
     512 < s.codec.pfxWidth + 511) ∧
    (let s := receiving .lenField [0x01, 0xFE] []
     s.frameReady = false ∧ s.rxWant ≤ s.ses.rxBuf.length ∧ s.codec.bodyLen s.ses.rxBuf = some 510 ∧
     s.codec.pfxWidth + 510 ≤ 512) := by decide +kernel

theorem witness_CiphertextMessagesOpen :
    (let s := tagging (receiving (.body 1) [0x12] [])
     s.frameReady = true ∧ s.codec.parM1 s.ses.rxBuf = none ∧ s.codec.parM3 s.ses.rxBuf = none) ∧
    (let s := cancelled (receiving (.body 1) [7] [])
     s.frameReady = true ∧ s.codec.parM1 s.ses.rxBuf = some [7] ∧ s.env.cancel = true) ∧
    (let s := receiving (.body 0) [] []
     s.frameReady = true ∧ s.codec.parM3 s.ses.rxBuf = some [] ∧ s.env.cancel = false ∧ ([] : Bytes).length = 0) ∧
    (let s := receiving (.body 65) (List.replicate 65 7) []
     s.frameReady = true ∧ s.codec.parM1 s.ses.rxBuf = some (List.replicate 65 7) ∧ s.env.cancel = false ∧
     (List.replicate 65 (7 : Byte)).length % 64 ≠ 0) ∧
    (let s := receiving (.body 64) (List.replicate 64 7) []
     s.frameReady = true ∧ s.codec.parM3 s.ses.rxBuf = some (List.replicate 64 7) ∧ s.env.cancel = false ∧
     (List.replicate 64 (7 : Byte)).length ≠ 0 ∧ (List.replicate 64 (7 : Byte)).length % 64 = 0) := by
  decide +kernel

/-- In a session, with bytes held. -/
def holding (x : SessState) (p : Phase) (b : Bytes) : State :=
  { inSession x p with ses := { idle.ses with held := b, nd := 0x0000BEEF } }

theorem witness_ChallengeIsAnswered :
    (holding .awaitM1 .opened [0x12, 0x34, 0x56, 0x78]).codec.parOrgChallenge [0x12, 0x34, 0x56, 0x78] =
      some 0x12345678 ∧
    (holding .awaitM1 .opened [0x12]).codec.parOrgChallenge (holding .awaitM1 .opened [0x12]).ses.held = none ∧
    (let s := withEnv (fun e => { e with nonce := [5] }) (inSession .awaitM1 .nonce)
     s.env.nonce = 5 :: [] ∧ s.env.cancel = false ∧ s.codec.serDeviceChallenge ⟨s.cfg.deviceId, s.ses.ng, s.nonceWord⟩ ≠ []) ∧
    (cancelled (inSession .awaitM1 .nonce)).env.cancel = true ∧
    (cancelled (inSession .awaitM1 .sealed)).env.cancel = true ∧
    (let s := answering [] [.closed] (inSession .awaitM1 .sealed)
     s.env.cancel = false ∧ s.sendAnswer = .closed) ∧
    (let s := answering [] [.timeout] (inSession .awaitM1 .sealed)
     s.env.cancel = false ∧ s.sendAnswer = .timeout) ∧
    (let s := answering [] [.sent] (inSession .awaitM1 .sealed)
     s.env.cancel = false ∧ s.sendAnswer = .sent) := by decide +kernel

theorem witness_OrgResponseAuthenticates :
    (let s := holding .awaitM3 .opened [0, 0, 0xBE, 0xEF]
     s.codec.parOrgResponse s.ses.held = some ⟨0x0000BEEF, []⟩ ∧ s.ses.nd = 0x0000BEEF) ∧
    (let s := holding .awaitM3 .opened [0, 0, 0xBE, 0xEE]
     s.codec.parOrgResponse s.ses.held = some ⟨0x0000BEEE, []⟩ ∧ 0x0000BEEE ≠ s.ses.nd ∧ s.seq.sess = .awaitM3) ∧
    (let s := holding .awaitM3 .opened [0, 0, 0xBE]
     s.codec.parOrgResponse s.ses.held = none) := by decide +kernel

theorem witness_UpdateImageSizeChecked :
    (let s := receiving (.body 4) [0, 1, 0, 0] []
     s.frameReady = true ∧ s.codec.parUpdateImage s.ses.rxBuf = some 65536 ∧ (65536 : Word).toNat ≤ s.cfg.stageCap) ∧
    (let s := receiving (.body 4) [0, 1, 0, 1] []
     s.frameReady = true ∧ s.codec.parUpdateImage s.ses.rxBuf = some 65537 ∧ s.cfg.stageCap < (65537 : Word).toNat) ∧
    (let s := receiving (.body 3) [0, 1, 0] []
     s.frameReady = true ∧ s.codec.parUpdateImage s.ses.rxBuf = none) := by decide +kernel

theorem witness_OkIsSentUnframed :
    (cancelled (inSession .awaitImageSize .ack)).seq.sess = .awaitImageSize ∧
    (cancelled (inSession .awaitImageSize .ack)).env.cancel = true ∧
    (let s := answering [] [.closed] (inSession .imageComplete .start)
     s.seq.sess = .imageComplete ∧ s.env.cancel = false ∧ s.sendAnswer = .closed) ∧
    (let s := answering [] [.timeout] (inSession .imageComplete .start)
     s.seq.sess = .imageComplete ∧ s.env.cancel = false ∧ s.sendAnswer = .timeout) ∧
    (let s := answering [] [.sent] (inSession .awaitImageSize .ack)
     s.seq.sess = .awaitImageSize ∧ s.env.cancel = false ∧ s.sendAnswer = .sent) := by decide +kernel

/-- In ReceivingImage, of a 12-byte image, with `n` bytes received and `b` held. -/
def imaging (p : Phase) (n : Nat) (b : Bytes) (a : List RecvAnswer) : State :=
  answering a [] { inSession .receivingImage p with ses := { idle.ses with imgSize := 12, imgRcvd := n, held := b } }

theorem witness_ImageDataReceivesAndStages :
    (let s := imaging .start 11 [] [.data [5, 6]]
     s.seq.phase ≠ .chunk ∧ s.ses.imgRcvd < s.ses.imgSize.toNat ∧ s.env.cancel = false ∧
     s.recvAnswer = .data [5, 6]) ∧
    (let s := cancelled (imaging .start 0 [] [])
     s.seq.phase ≠ .chunk ∧ s.ses.imgRcvd < s.ses.imgSize.toNat ∧ s.env.cancel = true) ∧
    (let s := imaging .start 11 [] [.closed]
     s.seq.phase ≠ .chunk ∧ s.ses.imgRcvd < s.ses.imgSize.toNat ∧ s.env.cancel = false ∧ s.recvAnswer = .closed) ∧
    (let s := imaging .start 11 [] [.data []]
     s.seq.phase ≠ .chunk ∧ s.ses.imgRcvd < s.ses.imgSize.toNat ∧ s.env.cancel = false ∧ s.recvAnswer = .data []) ∧
    (let s := imaging .start 0 [] [.timeout]
     s.seq.phase ≠ .chunk ∧ s.ses.imgRcvd < s.ses.imgSize.toNat ∧ s.env.cancel = false ∧ s.recvAnswer = .timeout) ∧
    (let s := imaging .chunk 65534 [5, 6] []
     s.seq.phase = .chunk ∧ s.ses.imgRcvd + s.ses.held.length ≤ s.cfg.stageCap ∧ Memory.wf s.stage = true) ∧
    (let s := imaging .start 12 [] []
     s.seq.phase ≠ .chunk ∧ s.ses.imgSize.toNat ≤ s.ses.imgRcvd) := by decide +kernel

/-- The session's role set. -/
def asRole (r : Role) (s : State) : State := { s with ses := { s.ses with role := r } }

theorem witness_SilentSessionSteps :
    Running (inSession .checkSent .start) ∧ resting (inSession .checkSent .start) = true ∧
    Running (inSession .challengeSent .start) ∧ resting (inSession .challengeSent .start) = true ∧
    (let s := asRole .confirming (inSession .authenticated .start)
     Running s ∧ resting s = true ∧ s.seq.sess = .authenticated ∧ s.ses.role = .confirming) ∧
    (let s := asRole .updating (inSession .authenticated .start)
     Running s ∧ resting s = true ∧ s.seq.sess = .authenticated ∧ s.ses.role = .updating) := by
  unfold Running; decide +kernel

/-- In a session of the run state `r`, at organization `i` of two, under a policy. -/
def atOrg (r : RunState) (x : SessState) (i : Nat) (pol : FailPolicy) : State :=
  { running 0x00000005 ⟨r, x, .idle, .start⟩ with
    cfg := { exCfg with confirmFail := pol }
    run := { idle.run with orgIdx := i }
    err := ⟨some .nonceMismatch, some i, none⟩ }

theorem witness_SessionDoneRecords :
    (let s := atOrg .runGU .sessionDone 0 .abort
     Running s ∧ resting s = true ∧ s.seq.sess = .sessionDone ∧ s.run.orgIdx + 1 < s.cfg.nOrgs) ∧
    (let s := atOrg .runGC .sessionDone 1 .abort
     Running s ∧ resting s = true ∧ s.cfg.nOrgs ≤ s.run.orgIdx + 1 ∧ s.run.firstGcErr = none) ∧
    (let s := atOrg .runGC .sessionDone 1 .goOn
     let x : State := { s with run := { s.run with firstGcErr := some s.err } }
     Running x ∧ resting x = true ∧ x.cfg.nOrgs ≤ x.run.orgIdx + 1 ∧ x.run.firstGcErr = some x.err) := by
  unfold Running; decide +kernel

theorem witness_FailedSessionDecides :
    (let s := atOrg .runGU .failed 0 .goOn
     Running s ∧ resting s = true ∧ s.seq.sess = .failed ∧ s.seq.run = .runGU) ∧
    (let s := atOrg .runGC .failed 1 .abort
     Running s ∧ resting s = true ∧ s.seq.sess = .failed ∧ s.cfg.confirmFail = .abort) ∧
    (let s := { atOrg .runGC .failed 1 .goOn with err := ⟨some .closed, some 1, none⟩ }
     Running s ∧ resting s = true ∧ s.seq.sess = .failed ∧ s.err.kind = .transportFailure) ∧
    (let s := { atOrg .runGC .failed 1 .goOn with err := ⟨some .closed, some 1, none⟩ }
     let x : State := { s with run := { s.run with firstGcErr := some ⟨some .nonceMismatch, some 0, none⟩ } }
     Running x ∧ resting x = true ∧ x.seq.sess = .failed ∧ x.err.kind = .transportFailure) ∧
    (let s := { atOrg .runGC .failed 1 .goOn with cfg := { exCfg with confirmFail := .goOn, nOrgs := 3 } }
     Running s ∧ resting s = true ∧ s.seq.sess = .failed ∧ s.seq.run = .runGC ∧ s.cfg.confirmFail = .goOn ∧
     s.err.kind ≠ .transportFailure ∧ s.run.orgIdx + 1 < s.cfg.nOrgs) ∧
    (let s := atOrg .runGC .failed 1 .goOn
     Running s ∧ resting s = true ∧ s.seq.sess = .failed ∧ s.seq.run = .runGC ∧ s.cfg.confirmFail = .goOn ∧
     s.err.kind ≠ .transportFailure ∧ s.cfg.nOrgs ≤ s.run.orgIdx + 1) := by
  unfold Running; decide +kernel

/-- Validation with `n` decrypted zero bytes, of which the image of 64 staged ones came. -/
def validating (r : RunState) (n : Nat) : State :=
  { inValidation r with
    run := { idle.run with imgLen := 64, decImg := List.replicate n 0 }
    stage := Memory.storeBytes [] 0 (List.replicate 64 7) }

/-- Before validation's first step, with an image of `n` staged bytes. -/
def staged (n : Nat) : State :=
  { inValidation .valDecrypt with
    run := { idle.run with imgLen := BitVec.ofNat 32 n }
    stage := Memory.storeBytes [] 0 (List.replicate n 7) }

theorem witness_ValidationDecryptsParsesHashes :
    (let s := validating .valDecrypt 0
     let img : Bytes := List.replicate 64 7
     Running s ∧ resting s = true ∧ s.seq.sess = .noSession ∧ s.seq.run = .valDecrypt ∧
     img.length = s.run.imgLen.toNat ∧ (∀ i (h : i < img.length), s.stageByte i = some img[i]) ∧ img.length ≠ 0 ∧
     img.length % 64 = 0) ∧
    (let s := staged 0
     Running s ∧ resting s = true ∧ s.seq.sess = .noSession ∧ s.seq.run = .valDecrypt ∧
     ([] : Bytes).length = s.run.imgLen.toNat) ∧
    (let s := staged 65
     let img : Bytes := List.replicate 65 7
     Running s ∧ resting s = true ∧ s.seq.sess = .noSession ∧ s.seq.run = .valDecrypt ∧
     img.length = s.run.imgLen.toNat ∧ (∀ i (h : i < img.length), s.stageByte i = some img[i]) ∧
     img.length % 64 ≠ 0) ∧
    (let s := validating .valParse 77
     Running s ∧ resting s = true ∧ s.seq.sess = .noSession ∧ s.seq.run = .valParse ∧ 77 ≤ s.run.decImg.length) ∧
    (let s := validating .valParse 76
     Running s ∧ resting s = true ∧ s.seq.sess = .noSession ∧ s.seq.run = .valParse ∧ s.run.decImg.length < 77) ∧
    (let s := validating .valHash 77
     Running s ∧ resting s = true ∧ s.seq.sess = .noSession ∧ s.seq.run = .valHash) := by
  unfold Running; decide +kernel

/-- Before the comparison of a digest with the header's hash and the attestations. -/
def comparing (hash digest : Bytes) (att : List Bytes) : State :=
  { inValidation .valCompare with
    run := { idle.run with
      hdr := some { idle.out.installHdr with hash := hash }, digest := digest, attests := att } }

theorem witness_ValidationCompares :
    (List.replicate 64 (7 : Byte)).length = 64 ∧ (List.replicate 63 (7 : Byte)).length ≠ 64 ∧
    (List.replicate 64 (7 : Byte)).length ≠ 128 ∧
    (let s := comparing [1] [1] [[1], [1]]
     Running s ∧ resting s = true ∧ s.seq.sess = .noSession ∧ s.seq.run = .valCompare ∧
     s.run.digest = [1] ∧ (∀ a ∈ s.run.attests, attestEq s.cfg.attestEnc s.run.digest a = true)) ∧
    (let s := comparing [1] [2] []
     Running s ∧ resting s = true ∧ s.seq.sess = .noSession ∧ s.seq.run = .valCompare ∧ s.run.digest ≠ [1]) ∧
    (let s := comparing [1] [1] [[1], [2], [3]]
     Running s ∧ resting s = true ∧ s.run.attests = [[1]] ++ [2] :: [[3]] ∧
     (∀ x ∈ [[(1 : Byte)]], attestEq s.cfg.attestEnc s.run.digest x = true) ∧
     attestEq s.cfg.attestEnc s.run.digest [2] = false) := by
  unfold Running; decide +kernel

theorem witness_RaiseIsPrecise :
    (inSession .awaitM3 .start).seq.sess.active = true ∧ idle.seq.sess.active = false := by decide +kernel

theorem witness_SegmentsCoverPlaintext :
    0 + 1 < segCount (List.replicate 54 0) ∧ 1 + 1 = segCount (List.replicate 54 0) := by decide +kernel

theorem witness_PaddedBlockLayout :
    (List.replicate 64 (0 : Byte)).length = 64 ∧ 2 ≤ 9 ∧
    1 ≤ ([9] : Bytes).length ∧ (List.replicate 53 (9 : Byte)).length ≤ 53 ∧
    (List.replicate 8 (0x11 : Byte)).length = 8 ∧ 0 + 1 < segCount (List.replicate 54 0) := by decide +kernel

theorem witness_StripLaws :
    (1 ≤ (2 : Byte).toNat ∧ (2 : Byte).toNat ≤ [(2 : Byte), 2].length ∧
      (∀ i, i < (2 : Byte).toNat → [(2 : Byte), 2][i]? = some 2)) ∧
    (0 : Byte).toNat = 0 ∧ [(2 : Byte)].length < (2 : Byte).toNat ∧
    (∃ i, i < (2 : Byte).toNat ∧ [(2 : Byte), 1][i]? ≠ some 2) :=
  ⟨by decide +kernel, by decide +kernel, by decide +kernel, 1, by decide +kernel⟩

theorem witness_PaddedBlocksOpenToPlaintext :
    ([9] : Bytes) ≠ [] ∧ ∀ k, FillerValid ((fun _ => List.replicate 8 0x11 : Nat → Bytes) k) := by
  have h : FillerValid (List.replicate 8 0x11) := by unfold FillerValid; decide +kernel
  exact ⟨by decide +kernel, fun _ => h⟩

theorem witness_HashPaddingAndHexForm :
    0 < ([1] : Bytes).length ∧ 9 < 10 ∧ 5 < 6 ∧ hexEnc [0xAB] = hexEnc [0xAB] := by decide +kernel

theorem witness_WordPackingRoundTrips :
    ([1, 2, 3, 4] : Bytes).length % 4 = 0 ∧ (List.replicate 64 (7 : Byte)).length = 64 := by decide +kernel

/-- Idle, with one line presented and the answers of the engines set. -/
def commanding (ls : List HostLine) (f : Env → Env) : State := withEnv (fun e => f { e with program := ls }) idle

theorem witness_Sha3HashCommandCompletes :
    (let s := commanding [⟨0x00000404, [1]⟩] fun e => { e with shaReady := [0, 0, 1], shaDigest := [zeroBlock] }
     IdleReady s ∧ s.env.program = [⟨0x00000404, [1]⟩] ∧ s.env.shaReady = [0, 0] ++ s.cfg.shaReady :: [] ∧
     s.env.shaDigest = zeroBlock :: []) ∧
    (∀ w ∈ [(0 : Word), 0], w ≠ exCfg.shaReady) ∧ [(0 : Word), 0].length < exCfg.pollMax :=
  ⟨by unfold IdleReady; decide +kernel, by simp [exCfg], by decide +kernel⟩

/-- A streamed message at its start write: every word in the FIFO. -/
def streamed (m : Bytes) (d : Block) : State :=
  let s := inProc .shaWrStart
  { s with
    sha := { s.sha with msg := m, j := m.length / 4 }
    shaWin := { s.shaWin with fifo := words m, ptr := 0 }
    env := { s.env with shaDigest := [d] } }

/-- A core with the two known values, and no other. -/
def knownCore (m : Bytes) : Bytes :=
  if m = shaPad shaVector1 then unwords shaVector1Words
  else if m = shaPad (shaVector1 ++ shaVector1) then unwords shaVector2Words else []

/-- The words of the first known digest, as a block. -/
def vector1Block : Block := blockOfBytes (unwords shaVector1Words)

theorem streamed_ordered (m : Bytes) (d : Block) (h : 0 < m.length) (h' : m.length % 64 = 0) :
    HashOrdered (streamed m d) := by
  have e : (words m).length = m.length / 4 := by simp [words]
  refine ⟨rfl, nofun, nofun, fun _ => ⟨rfl, rfl, h, h', ?_⟩, nofun, nofun⟩
  show words m = (words m).take (m.length / 4)
  rw [← e, List.take_length]

theorem witness_CoresAnswerWhatWasWritten :
    RsaAnswers (fun _ b => b) (withEnv (fun e => { e with rsaResult := [zeroBlock] })
      { inProc .rsaWrStart with rsaWin := ⟨zeroBlock, zeroBlock, 0, 0, 0⟩ }) ∧
    HashOrdered (streamed (shaPad shaVector1) vector1Block) ∧
    ShaAnswers knownCore (streamed (shaPad shaVector1) vector1Block) ∧ ShaKnownValues knownCore := by
  refine ⟨by unfold RsaAnswers; decide +kernel, streamed_ordered _ _ (by decide +kernel) (by decide +kernel), ?_, ?_⟩
  · unfold ShaAnswers; decide +kernel
  · unfold ShaKnownValues; decide +kernel

theorem witness_RsaDecryptCommandCompletes :
    let s := commanding [⟨0x00000002, List.replicate 128 7⟩] fun e =>
      { e with rsaStatus := [1, 1], rsaResult := [goodBlock, goodBlock] }
    IdleReady s ∧ (List.replicate 128 (7 : Byte)).length = 64 * 2 ∧
    s.env.rsaStatus = List.replicate 2 s.cfg.rsaDone ++ [] ∧ s.env.rsaResult = [goodBlock, goodBlock] ++ [] ∧
    (s.cfg.hdrCheck = .strict → ∀ r ∈ [goodBlock, goodBlock], hdrOk (unwords r.toList) = true) := by
  have h : hdrOk (unwords goodBlock.toList) = true := by decide +kernel
  refine ⟨by unfold IdleReady; decide +kernel, by decide +kernel, rfl, rfl, fun _ r hr => ?_⟩
  simp only [List.mem_cons, List.not_mem_nil, or_false, or_self] at hr
  rw [hr]; exact h

theorem witness_RsaEncryptCommandCompletes :
    (let s := commanding [⟨0x00000101, List.replicate 54 7⟩] fun e =>
       { e with filler := List.replicate 16 9, rsaStatus := [1, 1], rsaResult := [goodBlock, zeroBlock] }
     IdleReady s ∧ decode (.cmd 0x00000101) = .ok (.rsaEncrypt .updatingOrgPublic) ∧
     2 = segCount (List.replicate 54 7) ∧ s.env.filler = List.replicate 16 9 ++ [] ∧
     (∀ b ∈ List.replicate 16 (9 : Byte), b ≠ 0) ∧ s.env.rsaStatus = List.replicate 2 s.cfg.rsaDone ++ [] ∧
     s.env.rsaResult = [goodBlock, zeroBlock] ++ []) ∧
    (IdleReady (presented 0x00000201 []) ∧ 0 = segCount []) := by
  unfold IdleReady; decide +kernel

theorem witness_EncryptThenDecryptRoundTrips :
    let f : Word → Block → Block := fun _ b => b
    let p : Bytes := [9]
    let fs : Bytes := List.replicate 8 0x11
    let cs : List Block := [goodBlock]
    let c : Bytes := unwords goodBlock.toList
    let s := commanding [⟨0x00000101, p⟩, ⟨0x00000002, c⟩] fun e =>
      { e with filler := fs, rsaStatus := [1, 1], rsaResult := cs ++ cs }
    IdleReady s ∧ 1 = segCount p ∧ fs.length = 8 * 1 ∧ (∀ b ∈ fs, b ≠ 0) ∧
    s.env.rsaStatus = List.replicate (2 * 1) s.cfg.rsaDone ++ [] ∧
    cs = ((List.range 1).map fun k =>
      f s.cfg.keyIndex.updatingOrgPublic (blockOfBytes (padBlock (segAt p k) ((fs.drop (8 * k)).take 8)))) ∧
    c = (cs.flatMap fun r => unwords r.toList) ∧
    s.env.rsaResult = cs ++ cs.map (f s.cfg.keyIndex.devicePrivate) ++ [] ∧ KeyPair f s.cfg.keyIndex ∧
    ¬(p.length % 53 = 0 ∧ strip (segAt p (1 - 1)) ≠ segAt p (1 - 1)) := by
  refine ⟨by unfold IdleReady; decide +kernel, ?_, ?_, ?_, ?_, ?_, ?_, ?_, fun _ => rfl, ?_⟩ <;> decide +kernel

/-- Reading back a word laid out most significant byte first. -/
theorem be32_beBytes (w : Word) :
    be32 (w.extractLsb' 24 8) (w.extractLsb' 16 8) (w.extractLsb' 8 8) (w.extractLsb' 0 8) = w := by
  simp only [be32]
  ext i hi
  simp only [BitVec.getElem_append, BitVec.getElem_extractLsb']
  split
  · simp [BitVec.getLsbD_eq_getElem hi]
  · split
    · rw [show 8 + (i - 8) = i by omega]; simp [BitVec.getLsbD_eq_getElem hi]
    · split
      · rw [show 16 + (i - 8 - 8) = i by omega]; simp [BitVec.getLsbD_eq_getElem hi]
      · rw [show 24 + (i - 8 - 8 - 8) = i by omega]; simp [BitVec.getLsbD_eq_getElem hi]

theorem exCodec_lawful : CodecLawful (· < 65536) exCodec where
  updateCheck _ := congrArg some (congrArg₂ UpdateCheckRec.mk (be32_beBytes _) (be32_beBytes _))
  m1 _ := rfl
  orgChallenge _ := congrArg some (be32_beBytes _)
  m2 _ := rfl
  deviceChallenge r := by
    obtain ⟨a, b, c⟩ := r
    show some (DeviceChallengeRec.mk (be32 _ _ _ _) (be32 _ _ _ _) (be32 _ _ _ _)) = _
    exact congrArg some (by rw [DeviceChallengeRec.mk.injEq]; exact ⟨be32_beBytes a, be32_beBytes b, be32_beBytes c⟩)
  m3 _ := rfl
  orgResponse r := by
    obtain ⟨a, b⟩ := r
    simp only [exCodec, beBytes, List.cons_append, List.nil_append, List.length_cons]
    rw [if_pos (by omega)]
    exact congrArg some (by rw [OrgResponseRec.mk.injEq]; exact ⟨be32_beBytes a, rfl⟩)
  updateImage _ := congrArg some (be32_beBytes _)
  pfxLength _ := rfl
  framing n h := by
    show some (256 * (BitVec.ofNat 8 (n / 256)).toNat + (BitVec.ofNat 8 n).toNat) = some n
    simp only [BitVec.toNat_ofNat]
    congr 1; omega

theorem witness_FramedMessageIsReceivedWhole :
    (let s := answering [.data (frame exCodec [5, 6] ++ [7]), .closed] [] (inSession .awaitM3 .start)
     Running s ∧ resting s = true ∧ s.seq.sess = .awaitM3 ∧ s.seq.phase = .start ∧ s.ses.rx = .lenField ∧
     s.ses.rxBuf = [] ∧ s.env.cancel = false ∧ s.env.boot.linkUp = true ∧ s.codec.pfxWidth + 510 ≤ 512 ∧
     s.env.recv = .data (frame s.codec [5, 6] ++ [7]) :: [.closed]) ∧
    CodecLawful (· < 65536) (answering [] [] idle).codec ∧ 510 < 65536 := by
  exact ⟨by unfold Running; decide +kernel, exCodec_lawful, by decide⟩

/-! ### Witnesses of the invariants: a state that meets each, mid-run, and has a next state -/

/-- In AwaitM3 of the updating organization's session, at the second status read of the block's decryption. -/
def opening : State :=
  { inSession .awaitM3 .engine with
    seq := ⟨.runGU, .awaitM3, .rsaPoll 2, .engine⟩
    rsa := { idle.rsa with key := .devicePrivate, op := .decrypt, nblk := 1, pollcnt := 1 }
    env := { idle.env with rsaStatus := [0] } }

theorem witness_SequencingInvariantKept : Placed opening ∧ ∃ t, step opening = .next t :=
  ⟨by unfold Placed; decide +kernel, _, rfl⟩

theorem witness_KeyDisciplineAndPollBoundKept : KeyFits opening ∧ PollBounded opening ∧ ∃ t, step opening = .next t := by
  refine ⟨by unfold KeyFits; decide +kernel, ⟨rfl, fun a h => ?_, nofun⟩, _, rfl⟩
  cases h; decide +kernel

theorem witness_HashOrderKept :
    HashOrdered (streamed (shaPad [1]) zeroBlock) ∧ ∃ t, step (streamed (shaPad [1]) zeroBlock) = .next t :=
  ⟨streamed_ordered _ _ (by decide +kernel) (by decide +kernel), _, rfl⟩

/-- Two of twelve image bytes staged, two more held. -/
def staging : State :=
  { inSession .receivingImage .chunk with
    ses := { idle.ses with imgSize := 12, imgRcvd := 2, held := [7, 8], ok := true }
    stage := [(0, 5), (1, 6)] }

theorem staging_sound : Placed staging ∧ StageSound staging := by
  refine ⟨by unfold Placed; decide +kernel, by decide +kernel, fun a h => absurd h (Nat.not_lt_zero a), ?_, ?_⟩
  · exact fun _ a h => by revert a; decide +kernel
  · simp only [ImageProgress, staging, inSession, running]; decide +kernel

theorem witness_StagingInvariantKept : Placed staging ∧ StageSound staging ∧ ∃ t, step staging = .next t :=
  ⟨staging_sound.1, staging_sound.2, _, rfl⟩

theorem witness_SoundStatesNeverFault : Placed staging ∧ StageSound staging ∧ Evolves staging staging :=
  ⟨staging_sound.1, staging_sound.2, .refl _⟩

/-- Before the comparison that completes a run of one organization: 77 zero bytes decrypted, the digest zero. -/
def agreeing : State :=
  { inValidation .valCompare with
    cfg := { exCfg with nOrgs := 1 }
    run := { idle.run with
      sessLog := [(0, .success)], decImg := List.replicate 77 0, hdr := some (parseHeader (List.replicate 77 0)) } }

theorem agreeing_sound : Placed agreeing ∧ QuorumSound agreeing := by
  refine ⟨by unfold Placed; decide +kernel, ⟨nofun, nofun, nofun⟩, ⟨⟨?_, ?_, ?_⟩, ?_, rfl⟩, nofun⟩ <;> decide +kernel

theorem witness_QuorumInvariantKept : Placed agreeing ∧ QuorumSound agreeing ∧ ∃ t, step agreeing = .next t :=
  ⟨agreeing_sound.1, agreeing_sound.2, _, rfl⟩

theorem witness_ReadyMeansAgreement :
    ParamsValid agreeing.cfg ∧ Placed agreeing ∧ QuorumSound agreeing ∧ ∃ t, Evolves agreeing t ∧ t.out.ready = true := by
  refine ⟨by unfold ParamsValid; decide +kernel, agreeing_sound.1, agreeing_sound.2, ?_⟩
  have h : ∃ t, step agreeing = .next t ∧ t.out.ready = true := ⟨_, rfl, by decide +kernel⟩
  obtain ⟨t, ht, hr⟩ := h
  exact ⟨t, .step (.refl _) ht, hr⟩

theorem witness_ParametersAndStagedBytesStay :
    (∃ t, step opening = .next t) ∧ (opening.stageByte 0).isSome = false ∧ (staging.stageByte 1).isSome = true ∧
    ¬(opening.seq.sess = .receivingImage ∧ opening.seq.phase = .chunk) := by
  refine ⟨⟨_, rfl⟩, by decide +kernel, by decide +kernel, by decide +kernel⟩

theorem witness_SuspectIsBookkeeping :
    let s : State := polling 3 [0] []
    s.env.resetIn = false ∧ s.book.suspectRsa = false ∧ ∃ t, step s = .next t ∧ t.book.suspectRsa = true :=
  ⟨rfl, rfl, _, rfl, rfl⟩

theorem witness_CancelIsSampledInSessionsOnly :
    (let s := inValidation .valParse
     s.seq.sess.active = false ∧ s.env.busRequest = none ∧ ∃ t, step s = .next t) ∧
    opening.seq.proc ≠ .idle ∧ opening.env.busRequest = none ∧ (∃ t, step opening = .next t) :=
  ⟨⟨rfl, rfl, _, rfl⟩, by decide +kernel, rfl, _, rfl⟩

end Sys2Proof.Tests
end

section
/-! PROOF. Word packing (00_scope R11): the equations of `be32`, `beBytes`, `words` and `unwords`, and the round trips
both ways. -/

namespace Sys2Proof.Proofs.Packing
open Sys2Proof Sys2Proof.Machine

/-! ### One word -/

theorem toNat_be32 (b0 b1 b2 b3 : Byte) :
    (be32 b0 b1 b2 b3).toNat = b0.toNat * 2 ^ 24 + b1.toNat * 2 ^ 16 + b2.toNat * 2 ^ 8 + b3.toNat := by
  have h (m : Nat) (b : Byte) : m <<< 8 ||| b.toNat = m * 2 ^ 8 + b.toNat := by
    rw [Nat.shiftLeft_eq, Nat.mul_comm, Nat.two_pow_add_eq_or_of_lt b.isLt]
  simp only [be32, BitVec.toNat_append, h]
  omega

theorem beBytes_be32 (b0 b1 b2 b3 : Byte) : beBytes (be32 b0 b1 b2 b3) = [b0, b1, b2, b3] := by
  have byteAt (n : Nat) (b : Byte) (h : (be32 b0 b1 b2 b3).toNat / 2 ^ n % 2 ^ 8 = b.toNat) :
      (be32 b0 b1 b2 b3).extractLsb' n 8 = b :=
    BitVec.eq_of_toNat_eq (by rw [BitVec.extractLsb'_toNat, Nat.shiftRight_eq_div_pow, h])
  rw [toNat_be32] at byteAt
  rw [beBytes, byteAt 24 b0 (by omega), byteAt 16 b1 (by omega), byteAt 8 b2 (by omega), byteAt 0 b3 (by omega)]

/-! ### Strings of words -/

@[simp] theorem words_nil : words [] = [] := rfl

@[simp] theorem unwords_nil : unwords [] = [] := rfl

@[simp] theorem words_cons4 (b0 b1 b2 b3 : Byte) (s : Bytes) :
    words (b0 :: b1 :: b2 :: b3 :: s) = be32 b0 b1 b2 b3 :: words s := by
  have hlen : (b0 :: b1 :: b2 :: b3 :: s).length / 4 = s.length / 4 + 1 := by
    simp only [List.length_cons]; omega
  have hnext (i : Nat) : wordAt (b0 :: b1 :: b2 :: b3 :: s) (i + 1) = wordAt s i := by
    simp [wordAt, Nat.mul_add]
  rw [words, hlen, List.range_succ_eq_map, List.map_cons, List.map_map]
  exact congrArg _ (List.map_congr_left fun i _ => hnext i)

@[simp] theorem unwords_cons (w : Word) (ws : List Word) : unwords (w :: ws) = beBytes w ++ unwords ws :=
  List.flatMap_cons

theorem words_beBytes_append (w : Word) (s : Bytes) : words (beBytes w ++ s) = w :: words s := by
  have hpack : be32 (w.extractLsb' 24 8) (w.extractLsb' 16 8) (w.extractLsb' 8 8) (w.extractLsb' 0 8) = w := by
    apply BitVec.eq_of_toNat_eq
    simp only [toNat_be32, BitVec.extractLsb'_toNat, Nat.shiftRight_eq_div_pow]
    omega
  exact (words_cons4 ..).trans (congrArg (· :: words s) hpack)

theorem words_unwords (ws : List Word) : words (unwords ws) = ws := by
  induction ws with
  | nil => rfl
  | cons w ws ih => rw [unwords_cons, words_beBytes_append, ih]

/-- Four bytes at a time: a shorter rest is no whole word. -/
theorem unwords_words : ∀ s : Bytes, s.length % 4 = 0 → unwords (words s) = s
  | [], _ => rfl
  | [_], h | [_, _], h | [_, _, _], h => absurd h (by simp)
  | b0 :: b1 :: b2 :: b3 :: s, h => by
    have hs : s.length % 4 = 0 := by simp only [List.length_cons] at h; omega
    rw [words_cons4, unwords_cons, beBytes_be32, unwords_words s hs]
    rfl

/-- `blockOfBytes` is `words` at sixteen words (R61). -/
theorem toList_blockOfBytes {s : Bytes} (h : s.length = 64) : (blockOfBytes s).toList = words s := by
  apply List.ext_getElem
  · simp [words, h]
  · intro i _ _
    simp [words, blockOfBytes]

/-- Settles O43: a word's value is its bytes' positional value, so one word packs and unpacks both ways; the lists follow
word by word, and a block is the sixteen words of its string. -/
theorem wordPackingRoundTrips : Obligations.WordPackingRoundTrips :=
  ⟨fun _ => rfl, words_nil, unwords_nil, words_cons4, unwords_cons,
    fun b0 b1 b2 b3 => ⟨toNat_be32 b0 b1 b2 b3, beBytes_be32 b0 b1 b2 b3⟩, words_unwords, unwords_words,
    fun s h => by rw [toList_blockOfBytes h, unwords_words s (by omega)]⟩

end Sys2Proof.Proofs.Packing
end

section
/-! PROOF. PKCS blocks (40_rsa R76 to R80, R96): the segments of a plaintext, the block of a segment with the checks
made of it, and the strip. -/

namespace Sys2Proof.Proofs.PkcsBlocks
open Sys2Proof Sys2Proof.Machine Sys2Proof.Safety

/-! ### Segments (R76) -/

/-- A segment is cut where the plaintext ends. -/
theorem length_segAt (p : Bytes) (k : Nat) : (segAt p k).length = min 53 (p.length - 53 * k) := by
  rw [segAt, List.length_take, List.length_drop]

theorem length_segAt_of_not_last {p : Bytes} {k : Nat} (h : k + 1 < segCount p) : (segAt p k).length = 53 := by
  rw [length_segAt]
  unfold segCount at h
  omega

/-- The first `n` segments are the first `53 * n` bytes, however many of them the plaintext has. -/
theorem flatMap_segAt_range (p : Bytes) (n : Nat) : (List.range n).flatMap (segAt p) = p.take (53 * n) := by
  induction n with
  | zero => rfl
  | succ n ih =>
    rw [List.range_succ, List.flatMap_append, ih, List.flatMap_singleton, segAt, Nat.mul_succ, List.take_add]

/-- Settles O38: `segCount p` segments of 53 bytes reach the end of `p`, and each length follows from where the segment
is cut. -/
theorem segmentsCoverPlaintext : Obligations.SegmentsCoverPlaintext := by
  intro p
  have hcount : segCount p = (p.length + 52) / 53 := rfl
  refine ⟨hcount, ?_, fun k => length_segAt_of_not_last, fun k hk => ?_, ?_⟩
  · rw [flatMap_segAt_range, List.take_of_length_le (by omega)]
  · rw [length_segAt]
    omega
  · rw [← List.length_eq_zero_iff]
    omega

/-! ### The header check (R79) -/

/-- A byte compared with a default that would fail the comparison: the byte must stand there. -/
theorem getD_beq_iff {o : Bytes} {i : Nat} {d b : Byte} (h : d ≠ b) : (o.getD i d == b) = true ↔ o[i]? = some b := by
  rw [List.getD_eq_getElem?_getD, beq_iff_eq]
  cases o[i]? with
  | none => simp [h]
  | some c => simp

theorem filler_all_ne_zero_iff (o : Bytes) :
    ((o.drop 2).take 8).all (· != 0x00) = true ↔ ∀ i, 2 ≤ i → i ≤ 9 → o[i]? ≠ some 0x00 := by
  simp only [List.all_eq_true, bne_iff_ne]
  constructor
  · intro h i h2 h9 hi
    refine h 0x00 (List.mem_of_getElem? (i := i - 2) ?_) rfl
    rw [List.getElem?_take_of_lt (by omega), List.getElem?_drop, Nat.add_sub_cancel' h2, hi]
  · rintro h b hb rfl
    obtain ⟨i, hi⟩ := List.mem_iff_getElem?.1 hb
    rw [List.getElem?_take, List.getElem?_drop] at hi
    split at hi
    · exact h (2 + i) (by omega) (by omega) hi
    · cases hi

theorem hdrOk_iff (o : Bytes) :
    hdrOk o = true ↔ o[0]? = some 0x00 ∧ o[1]? = some 0x02 ∧ (∀ i, 2 ≤ i → i ≤ 9 → o[i]? ≠ some 0x00) ∧
      o[10]? = some 0x00 := by
  rw [hdrOk, Bool.and_eq_true, Bool.and_eq_true, Bool.and_eq_true, getD_beq_iff (by decide), getD_beq_iff (by decide),
    getD_beq_iff (by decide), filler_all_ne_zero_iff, and_assoc, and_assoc]

/-! ### The block of a segment (R78) -/

theorem length_padBlock {seg f : Bytes} (hseg : seg.length ≤ 53) (hf : f.length = 8) :
    (padBlock seg f).length = 64 := by
  simp only [padBlock, List.length_append, List.length_cons, List.length_nil, List.length_replicate, hf]
  omega

theorem padBlock_of_full {seg : Bytes} (h : seg.length = 53) (f : Bytes) :
    padBlock seg f = [0x00, 0x02] ++ f ++ [0x00] ++ seg := by
  simp [padBlock, h]

/-- Eleven bytes stand before the payload. -/
theorem payloadOf_padBlock {seg f : Bytes} (hseg : seg.length ≤ 53) (hf : f.length = 8) :
    payloadOf (padBlock seg f) = List.replicate (53 - seg.length) (BitVec.ofNat 8 (53 - seg.length)) ++ seg := by
  rw [payloadOf, padBlock, List.append_assoc _ _ seg, List.drop_left' (by simp [hf]),
    List.take_of_length_le (by simp; omega)]

/-- The header's own three bytes always pass, so only the filler can fail the check. -/
theorem hdrOk_padBlock_iff {seg f : Bytes} (hf : f.length = 8) :
    hdrOk (padBlock seg f) = true ↔ FillerValid f := by
  have hmid : ((padBlock seg f).drop 2).take 8 = f := by
    simp [padBlock, List.take_left' hf]
  have hterm : (padBlock seg f).getD 10 0xFF = 0x00 := by
    simp [padBlock, hf]
  have hfirst : (padBlock seg f).getD 0 0xFF = 0x00 := rfl
  have hsecond : (padBlock seg f).getD 1 0 = 0x02 := rfl
  rw [hdrOk, hfirst, hsecond, hmid, hterm]
  simp [FillerValid, hf]

/-- Settles O39: the block's parts have known lengths, so the check reads the filler, and the payload is what stands
behind the eleven bytes of the header. -/
theorem paddedBlockLayout : Obligations.PaddedBlockLayout := by
  refine ⟨fun o _ => hdrOk_iff o, ?_, fun p f k hk => padBlock_of_full (length_segAt_of_not_last hk) f⟩
  rintro seg f n hpos hseg hf rfl
  refine ⟨length_padBlock hseg hf, rfl, ?_, by omega, hdrOk_padBlock_iff hf, payloadOf_padBlock hseg hf⟩
  rw [BitVec.toNat_ofNat]
  omega

/-! ### Strip (R80, R96) -/

theorem hasPadRun_cons_iff (p : Byte) (rest : Bytes) :
    hasPadRun (p :: rest) = true ↔ 1 ≤ p.toNat ∧ p.toNat ≤ (p :: rest).length ∧
      ∀ i, i < p.toNat → (p :: rest)[i]? = some p := by
  simp only [hasPadRun, Bool.and_eq_true, decide_eq_true_eq, and_assoc, and_congr_right_iff]
  intro _ hle
  simp only [List.all_eq_true, List.forall_mem_iff_getElem, List.length_take_of_le hle]
  refine forall₂_congr fun i hi => ?_
  rw [List.getElem?_eq_getElem (by omega), List.getElem_take, beq_iff_eq, Option.some_inj]

theorem strip_of_hasPadRun {p : Byte} {rest : Bytes} (h : hasPadRun (p :: rest) = true) :
    strip (p :: rest) = (p :: rest).drop p.toNat := if_pos h

theorem strip_of_not_hasPadRun {x : Bytes} (h : hasPadRun x = false) : strip x = x := by
  cases x with
  | nil => rfl
  | cons p rest => simp [strip, h]

/-- A valid run has at least one byte, so dropping it shortens the string. -/
theorem strip_eq_self_iff (x : Bytes) : strip x = x ↔ hasPadRun x = false := by
  refine ⟨fun hx => ?_, strip_of_not_hasPadRun⟩
  cases x with
  | nil => rfl
  | cons p rest =>
    by_contra hrun
    rw [Bool.not_eq_false] at hrun
    obtain ⟨hpos, -, -⟩ := (hasPadRun_cons_iff p rest).1 hrun
    have hlen := congrArg List.length (strip_of_hasPadRun hrun ▸ hx)
    rw [List.length_drop, List.length_cons] at hlen
    omega

theorem hasPadRun_iff (x : Bytes) :
    hasPadRun x = true ↔ ∃ (p : Byte) (rest : Bytes), x = p :: rest ∧ 1 ≤ p.toNat ∧ p.toNat ≤ (p :: rest).length ∧
      ∀ i, i < p.toNat → (p :: rest)[i]? = some p := by
  cases x with
  | nil => simp [hasPadRun]
  | cons p rest =>
    rw [hasPadRun_cons_iff]
    constructor
    · exact fun h => ⟨p, rest, rfl, h⟩
    · rintro ⟨_, _, ⟨⟩, h⟩
      exact h

/-- Settles O40: strip is the drop of a valid run where one stands, and leaves a string alone exactly where none does. -/
theorem stripLaws : Obligations.StripLaws := by
  refine ⟨fun p rest hpos hle hall => strip_of_hasPadRun ((hasPadRun_cons_iff p rest).2 ⟨hpos, hle, hall⟩),
    fun p rest hbad => strip_of_not_hasPadRun ?_, rfl, fun x => ?_⟩
  · rw [← Bool.not_eq_true, hasPadRun_cons_iff]
    rintro ⟨hpos, hle, hall⟩
    obtain hzero | hlong | ⟨i, hi, hne⟩ := hbad
    · omega
    · omega
    · exact hne (hall i hi)
  · rw [strip_eq_self_iff, ← Bool.not_eq_true, hasPadRun_iff]

end Sys2Proof.Proofs.PkcsBlocks
end

section
/-! PROOF. The three registers whose transactions ZU-CORE never issues (40_rsa R93, 41_sha3 R108, R109): what each
operation of the machine leaves of them, that no step out of reset writes them, and that no fetch names them. -/

namespace Sys2Proof.Proofs.UnissuedRegisters
open Sys2Proof Sys2Proof.Machine

/-- RSA.STOP, SHA3.FULL and SHA3.COUNT, as they stand. -/
def unissuedRegs (s : State) : Word × Word × Word := (s.rsaWin.stop, s.shaWin.full, s.shaWin.count)

/-! ### The operations of a step

An operation without a branch is a record update of other fields, so it keeps the three registers by `rfl`; below are
the operations that branch or that run a continuation. -/

theorem unissuedRegs_ite {s t u : State} {c : Prop} {_ : Decidable c} (ht : unissuedRegs t = unissuedRegs s)
    (hu : unissuedRegs u = unissuedRegs s) : unissuedRegs (if c then t else u) = unissuedRegs s := by
  split
  · exact ht
  · exact hu

theorem unissuedRegs_raise (c : Cause) (s : State) : unissuedRegs (s.raise c) = unissuedRegs s :=
  unissuedRegs_ite rfl (unissuedRegs_ite rfl rfl)

theorem unissuedRegs_guarded {k : State → State} {s : State} (hk : unissuedRegs (k s) = unissuedRegs s) :
    unissuedRegs (s.guarded k) = unissuedRegs s :=
  unissuedRegs_ite (unissuedRegs_raise _ s) hk

theorem unissuedRegs_sendThen {b : Bytes} {k : State → State} {s : State}
    (hk : ∀ t, unissuedRegs (k t) = unissuedRegs t) : unissuedRegs (s.sendThen b k) = unissuedRegs s := by
  unfold State.sendThen
  split
  · exact hk _
  · exact unissuedRegs_raise _ _
  · exact unissuedRegs_raise _ _

theorem unissuedRegs_recvThen {n : Nat} {k : Bytes → State → State} {s : State}
    (hk : ∀ r t, unissuedRegs (k r t) = unissuedRegs t) : unissuedRegs (s.recvThen n k) = unissuedRegs s := by
  unfold State.recvThen
  split
  · exact unissuedRegs_raise _ _
  · exact hk _ _
  · exact unissuedRegs_raise _ _
  · exact unissuedRegs_raise _ _

/-! ### The engine procedures -/

theorem unissuedRegs_rsaReturn (out : Bytes) (s : State) : unissuedRegs (s.rsaReturn out) = unissuedRegs s :=
  unissuedRegs_ite rfl (unissuedRegs_ite rfl rfl)

theorem unissuedRegs_fillStep (s : State) : unissuedRegs s.fillStep = unissuedRegs s :=
  unissuedRegs_ite rfl rfl

theorem unissuedRegs_encryptBegin (p : Bytes) (key : KeySlot) (s : State) :
    unissuedRegs (s.encryptBegin p key) = unissuedRegs s :=
  unissuedRegs_ite (unissuedRegs_raise _ s) (unissuedRegs_ite (unissuedRegs_rsaReturn _ _) rfl)

theorem unissuedRegs_decryptBegin (c : Bytes) (key : KeySlot) (s : State) :
    unissuedRegs (s.decryptBegin c key) = unissuedRegs s :=
  unissuedRegs_ite (unissuedRegs_raise _ s) (unissuedRegs_ite (unissuedRegs_raise _ s) rfl)

theorem unissuedRegs_encryptBlockDone (s : State) : unissuedRegs s.encryptBlockDone = unissuedRegs s :=
  unissuedRegs_ite rfl (unissuedRegs_rsaReturn _ _)

theorem unissuedRegs_decryptBlockDone (s : State) : unissuedRegs s.decryptBlockDone = unissuedRegs s :=
  unissuedRegs_ite (unissuedRegs_raise _ s) (unissuedRegs_ite (unissuedRegs_rsaReturn _ _) rfl)

theorem unissuedRegs_blockDone (s : State) : unissuedRegs s.blockDone = unissuedRegs s := by
  unfold State.blockDone
  cases s.rsa.op with
  | encrypt => exact unissuedRegs_encryptBlockDone s
  | decrypt => exact unissuedRegs_decryptBlockDone s

theorem unissuedRegs_rsaPolled (w : Word) (s : State) : unissuedRegs (s.rsaPolled w) = unissuedRegs s :=
  unissuedRegs_ite rfl (unissuedRegs_ite (unissuedRegs_raise _ _) rfl)

theorem unissuedRegs_shaPolled (w : Word) (s : State) : unissuedRegs (s.shaPolled w) = unissuedRegs s :=
  unissuedRegs_ite rfl (unissuedRegs_ite (unissuedRegs_raise _ _) rfl)

theorem unissuedRegs_hashDone (s : State) : unissuedRegs s.hashDone = unissuedRegs s :=
  unissuedRegs_ite rfl rfl

/-! ### Sessions, the run and validation -/

theorem unissuedRegs_lenFieldDone (s : State) : unissuedRegs s.lenFieldDone = unissuedRegs s := by
  unfold State.lenFieldDone
  split
  · exact unissuedRegs_raise _ s
  · exact unissuedRegs_ite (unissuedRegs_raise _ s) rfl

theorem unissuedRegs_recvFrameStep (s : State) : unissuedRegs s.recvFrameStep = unissuedRegs s :=
  unissuedRegs_ite (unissuedRegs_guarded (unissuedRegs_recvThen fun _ _ => rfl)) (unissuedRegs_lenFieldDone s)

theorem unissuedRegs_onFrame {k : Bytes → State → State} {s : State}
    (hk : ∀ b t, unissuedRegs (k b t) = unissuedRegs t) : unissuedRegs (s.onFrame k) = unissuedRegs s :=
  unissuedRegs_ite (hk _ _) (unissuedRegs_recvFrameStep s)

theorem unissuedRegs_openBody (par : Bytes → Option Bytes) (bad : Cause) (b : Bytes) (s : State) :
    unissuedRegs (s.openBody par bad b) = unissuedRegs s := by
  unfold State.openBody
  split
  · exact unissuedRegs_raise _ s
  · exact unissuedRegs_guarded (unissuedRegs_decryptBegin _ _ s)

theorem unissuedRegs_nextOrg (s : State) : unissuedRegs s.nextOrg = unissuedRegs s := by
  refine unissuedRegs_ite rfl ?_
  split <;> rfl

theorem unissuedRegs_failedStep (s : State) : unissuedRegs s.failedStep = unissuedRegs s :=
  unissuedRegs_ite (unissuedRegs_nextOrg _) rfl

theorem unissuedRegs_authenticatedStep (s : State) : unissuedRegs s.authenticatedStep = unissuedRegs s := by
  unfold State.authenticatedStep
  split <;> rfl

theorem unissuedRegs_valParseStep (s : State) : unissuedRegs s.valParseStep = unissuedRegs s :=
  unissuedRegs_ite (unissuedRegs_raise _ s) rfl

theorem unissuedRegs_valCompareStep (s : State) : unissuedRegs s.valCompareStep = unissuedRegs s := by
  unfold State.valCompareStep
  split
  · exact unissuedRegs_raise _ s
  · refine unissuedRegs_ite (unissuedRegs_raise _ s) ?_
    split
    · exact unissuedRegs_raise _ s
    · rfl

/-! ### Outcomes -/

/-- An outcome that, where it is a next state, has the three registers as `s` has them. -/
def LeavesUnissued (s : State) (o : Host.Outcome State Fault Refusal) : Prop :=
  ∀ t, o = .next t → unissuedRegs t = unissuedRegs s

theorem leavesUnissued_next {s t : State} (h : unissuedRegs t = unissuedRegs s) : LeavesUnissued s (.next t) := by
  rintro _ ⟨⟩
  exact h

theorem leavesUnissued_fault (s : State) (r : Fault) : LeavesUnissued s (.fault r) := by
  rintro _ ⟨⟩

theorem leavesUnissued_refused (s : State) (r : Refusal) : LeavesUnissued s (.refused r) := by
  rintro _ ⟨⟩

theorem leavesUnissued_ite {s : State} {o o' : Host.Outcome State Fault Refusal} {c : Prop} {_ : Decidable c}
    (h : LeavesUnissued s o) (h' : LeavesUnissued s o') : LeavesUnissued s (if c then o else o') := by
  split
  · exact h
  · exact h'

theorem leavesUnissued_gated {s t : State} (h : unissuedRegs t = unissuedRegs s) : LeavesUnissued s (s.gated t) :=
  leavesUnissued_ite (leavesUnissued_next rfl)
    (leavesUnissued_ite (leavesUnissued_next h) (leavesUnissued_refused s _))

/-! ### The instructions -/

theorem leavesUnissued_execRsaRdData (i : Fin 16) (s : State) : LeavesUnissued s (execRsaRdData i s) := by
  refine leavesUnissued_next ?_
  split
  · rfl
  · exact unissuedRegs_blockDone _

theorem leavesUnissued_execSha3RdDigest (s : State) : LeavesUnissued s (execSha3RdDigest s) := by
  refine leavesUnissued_next ?_
  split
  · rfl
  · exact unissuedRegs_hashDone _

theorem leavesUnissued_execUpdateCheck (s : State) : LeavesUnissued s (execUpdateCheck s) :=
  leavesUnissued_next (unissuedRegs_ite rfl (unissuedRegs_guarded (unissuedRegs_sendThen fun _ => rfl)))

theorem leavesUnissued_execOrgChallenge (s : State) : LeavesUnissued s (execOrgChallenge s) := by
  refine leavesUnissued_next ?_
  split
  · exact unissuedRegs_raise _ s
  · rfl

theorem leavesUnissued_execOrgResponse (s : State) : LeavesUnissued s (execOrgResponse s) := by
  refine leavesUnissued_next ?_
  split
  · exact unissuedRegs_raise _ s
  · exact unissuedRegs_ite (unissuedRegs_raise _ s) rfl

theorem leavesUnissued_execUpdateImage (s : State) : LeavesUnissued s (execUpdateImage s) := by
  refine leavesUnissued_next (unissuedRegs_onFrame fun b t => ?_)
  split
  · exact unissuedRegs_raise _ t
  · exact unissuedRegs_ite (unissuedRegs_raise _ t) rfl

theorem leavesUnissued_stageChunk (s : State) : LeavesUnissued s s.stageChunk :=
  leavesUnissued_ite (leavesUnissued_next rfl) (leavesUnissued_fault s _)

theorem leavesUnissued_execImageData (s : State) : LeavesUnissued s (execImageData s) :=
  leavesUnissued_ite (leavesUnissued_stageChunk s) (leavesUnissued_next
    (unissuedRegs_ite (unissuedRegs_guarded (unissuedRegs_recvThen fun _ _ => rfl)) rfl))

theorem leavesUnissued_exec (i : Instr) (s : State) : LeavesUnissued s (exec i s) := by
  cases i with
  | rsaEncrypt key => exact leavesUnissued_gated (unissuedRegs_encryptBegin _ key _)
  | rsaDecrypt key => exact leavesUnissued_gated (unissuedRegs_decryptBegin _ key _)
  | sha3Reset | sha3Hash | protoRun => exact leavesUnissued_gated rfl
  | rsaWrData | rsaWrKeysel | rsaWrStart | sha3WrStart | sha3WrFifo => exact leavesUnissued_next rfl
  | rsaRdStatus => exact leavesUnissued_next (unissuedRegs_rsaPolled _ _)
  | rsaRdData i => exact leavesUnissued_execRsaRdData i s
  | rsaWrStop | sha3RdFull | sha3WrCount => exact leavesUnissued_refused s _
  | sha3WrReset => exact leavesUnissued_next (unissuedRegs_ite rfl rfl)
  | sha3RdReady => exact leavesUnissued_next (unissuedRegs_shaPolled _ _)
  | sha3RdDigest => exact leavesUnissued_execSha3RdDigest s
  | updateCheck => exact leavesUnissued_execUpdateCheck s
  | m1 | m3 => exact leavesUnissued_next (unissuedRegs_onFrame (unissuedRegs_openBody _ _))
  | m2 | ok => exact leavesUnissued_next (unissuedRegs_guarded (unissuedRegs_sendThen fun _ => rfl))
  | updateImage => exact leavesUnissued_execUpdateImage s
  | imageData => exact leavesUnissued_execImageData s
  | orgChallenge => exact leavesUnissued_execOrgChallenge s
  | deviceChallenge => exact leavesUnissued_next (unissuedRegs_guarded (unissuedRegs_encryptBegin _ _ _))
  | orgResponse => exact leavesUnissued_execOrgResponse s

/-! ### The step -/

theorem leavesUnissued_valDecryptStep (s : State) : LeavesUnissued s s.valDecryptStep := by
  unfold State.valDecryptStep
  split
  · exact leavesUnissued_fault s _
  · exact leavesUnissued_next (unissuedRegs_decryptBegin _ _ s)

theorem leavesUnissued_runSilentStep (s : State) : LeavesUnissued s s.runSilentStep := by
  unfold State.runSilentStep
  cases s.seq.run with
  | valDecrypt => exact leavesUnissued_valDecryptStep s
  | valParse => exact leavesUnissued_next (unissuedRegs_valParseStep s)
  | valHash => exact leavesUnissued_next rfl
  | valCompare => exact leavesUnissued_next (unissuedRegs_valCompareStep s)
  | runIdle | runGU | runGC | runReady | runFailed => exact leavesUnissued_fault s _

theorem leavesUnissued_silentStep (s : State) : LeavesUnissued s s.silentStep := by
  refine leavesUnissued_ite (leavesUnissued_next rfl)
    (leavesUnissued_ite (leavesUnissued_next (unissuedRegs_fillStep s)) ?_)
  cases s.seq.sess with
  | checkSent | challengeSent => exact leavesUnissued_next rfl
  | authenticated => exact leavesUnissued_next (unissuedRegs_authenticatedStep s)
  | sessionDone => exact leavesUnissued_next (unissuedRegs_nextOrg s.recordSuccess)
  | failed => exact leavesUnissued_next (unissuedRegs_failedStep s)
  | noSession => exact leavesUnissued_runSilentStep s
  | init | awaitM1 | awaitM3 | awaitImageSize | receivingImage | imageComplete => exact leavesUnissued_fault s _

theorem leavesUnissued_rejectCode (c : Code) (e : DecodeError) (s : State) : LeavesUnissued s (s.rejectCode c e) := by
  cases c with
  | cmd => exact leavesUnissued_gated rfl
  | bus => exact leavesUnissued_refused s _
  | msg => exact leavesUnissued_fault s _

theorem leavesUnissued_runCode (c : Code) (s : State) : LeavesUnissued s (runCode c s) := by
  unfold runCode
  split
  · exact leavesUnissued_exec _ s
  · exact leavesUnissued_rejectCode c _ s

/-- Only reset touches the three registers (R166). -/
theorem leavesUnissued_step {s : State} (hreset : s.env.resetIn = false) : LeavesUnissued s (step s) := by
  unfold step
  rw [hreset, if_neg Bool.false_ne_true]
  split
  · exact leavesUnissued_runCode _ s.dropRequest
  · split
    · exact leavesUnissued_runCode _ s
    · exact leavesUnissued_silentStep s

/-! ### What is fetched -/

/-- A bus transaction is fetched at a position of an engine procedure, and nowhere else (R83, R102). -/
theorem procInstr_of_fetch_bus {s : State} {d : BitVec 10} (h : fetch s = some (.bus d)) :
    ∃ i, procInstr s.seq.proc = some i ∧ encode i = .bus d := by
  unfold fetch at h
  split at h
  · split at h
    · exact ⟨_, ‹_›, Option.some_inj.1 h⟩
    · split at h
      · cases h
      · obtain ⟨_, _, hcode⟩ := Option.map_eq_some_iff.1 h
        cases hcode
  · split at h
    · cases h
    · cases h

/-- The descriptors of RSA_WR_STOP, SHA3_RD_FULL and SHA3_WR_COUNT (R67). -/
def unissuedCodes : List Code := [.bus 0x148, .bus 0x210, .bus 0x348]

theorem encode_procInstr_notMem {p : Proc} {i : Instr} (h : procInstr p = some i) : encode i ∉ unissuedCodes := by
  cases p with
  | idle => cases h
  | rsaWrData k | rsaRdData k => cases h; revert k; decide
  | rsaWrKey | rsaWrStart | rsaPoll | shaWrReset | shaWrFifo | shaWrStart | shaPoll | shaRdDigest => cases h; decide

theorem fetch_ne_unissued (s : State) {d : BitVec 10} (hd : Code.bus d ∈ unissuedCodes) : fetch s ≠ some (.bus d) := by
  intro h
  obtain ⟨i, hi, hcode⟩ := procInstr_of_fetch_bus h
  exact encode_procInstr_notMem hi (hcode ▸ hd)

/-- A FIFO write is the same whatever FULL holds, and leaves it (R108). -/
theorem execSha3WrFifo_ignores_full {s t : State} (v : Word) (h : exec .sha3WrFifo s = .next t) :
    exec .sha3WrFifo { s with shaWin := { s.shaWin with full := v } } =
      .next { t with shaWin := { t.shaWin with full := v } } := by
  cases h
  rfl

/-- Settles O22: no position of an engine procedure stands for one of the three rows, and no operation of a step other
than reset writes one of their registers. -/
theorem neverIssuedRowsRefuse : Obligations.NeverIssuedRowsRefuse := by
  refine ⟨fun _ => rfl, fun _ => rfl, fun _ => rfl, fun s => ⟨?_, ?_, ?_⟩, fun s t hreset hstep => ?_,
    fun _ _ v => execSha3WrFifo_ignores_full v⟩
  · exact fetch_ne_unissued s (by decide)
  · exact fetch_ne_unissued s (by decide)
  · exact fetch_ne_unissued s (by decide)
  · have hregs := leavesUnissued_step hreset t hstep
    simpa only [unissuedRegs, Prod.mk.injEq] using hregs

end Sys2Proof.Proofs.UnissuedRegisters
end

section
/-! PROOF. The hash message and the hex form (41_sha3 R97, R98): the length of the padding and of the padded message;
the characters of a byte, their positions in the hex form, and that the hex form determines the bytes. -/

namespace Sys2Proof.Proofs.HashMessage
open Sys2Proof Sys2Proof.Machine

/-! ### The padded message -/

theorem shaPadLen_pos (m : Bytes) : 1 ≤ shaPadLen m := by
  unfold shaPadLen
  omega

theorem shaPadLen_le (m : Bytes) : shaPadLen m ≤ 64 := Nat.sub_le ..

theorem length_add_shaPadLen (m : Bytes) : m.length + shaPadLen m = 64 * (m.length / 64 + 1) := by
  unfold shaPadLen
  omega

@[simp] theorem length_shaPad (m : Bytes) : (shaPad m).length = 64 * (m.length / 64 + 1) := by
  rw [shaPad, List.length_append, List.length_replicate, length_add_shaPadLen]

/-! ### One digit -/

theorem hexDigit_of_lt {n : Nat} (h : n < 10) : hexDigit n = BitVec.ofNat 8 (0x30 + n) := if_pos h

/-- The letters `a` to `f`: 0x57 and a digit from 10 on is 0x61 and what the digit has above 10. -/
theorem hexDigit_ten_add (n : Nat) : hexDigit (10 + n) = BitVec.ofNat 8 (0x61 + n) := by
  rw [hexDigit, if_neg (by omega), ← Nat.add_assoc]

theorem hexDigit_inj : ∀ a < 16, ∀ b < 16, hexDigit a = hexDigit b → a = b := by decide

theorem eq_of_hexDigits_eq {b c : Byte} (hhigh : hexDigit (b.toNat / 16) = hexDigit (c.toNat / 16))
    (hlow : hexDigit (b.toNat % 16) = hexDigit (c.toNat % 16)) : b = c := by
  have hdiv : b.toNat / 16 = c.toNat / 16 := hexDigit_inj _ (by omega) _ (by omega) hhigh
  have hmod : b.toNat % 16 = c.toNat % 16 := hexDigit_inj _ (by omega) _ (by omega) hlow
  exact BitVec.eq_of_toNat_eq (by omega)

/-! ### The hex form -/

@[simp] theorem hexEnc_nil : hexEnc [] = [] := rfl

@[simp] theorem hexEnc_cons (b : Byte) (d : Bytes) :
    hexEnc (b :: d) = hexDigit (b.toNat / 16) :: hexDigit (b.toNat % 16) :: hexEnc d := rfl

@[simp] theorem length_hexEnc (d : Bytes) : (hexEnc d).length = 2 * d.length := by
  induction d with
  | nil => rfl
  | cons b d ih => simp only [hexEnc_cons, List.length_cons, ih, Nat.mul_add]

theorem hexEnc_getElem? (d : Bytes) (i : Nat) (h : i < d.length) :
    (hexEnc d)[2 * i]? = some (hexDigit (d[i].toNat / 16)) ∧
    (hexEnc d)[2 * i + 1]? = some (hexDigit (d[i].toNat % 16)) := by
  induction d generalizing i with
  | nil => cases h
  | cons b d ih =>
    cases i with
    | zero => exact ⟨rfl, rfl⟩
    | succ i => exact ih i (Nat.lt_of_succ_lt_succ h)

theorem hexEnc_injective : Function.Injective hexEnc := by
  intro d
  induction d with
  | nil =>
    rintro (_ | ⟨c, e⟩) h
    · rfl
    · cases h
  | cons b d ih =>
    rintro (_ | ⟨c, e⟩) h
    · cases h
    · rw [hexEnc_cons, hexEnc_cons, List.cons.injEq, List.cons.injEq] at h
      obtain ⟨hhigh, hlow, hrest⟩ := h
      rw [eq_of_hexDigits_eq hhigh hlow, ih hrest]

/-- Settles O42: the padding fills the message's last block, and the hex form is read two characters at a time. -/
theorem hashPaddingAndHexForm : Obligations.HashPaddingAndHexForm :=
  ⟨fun m => ⟨shaPadLen m, shaPadLen_pos m, shaPadLen_le m, rfl, length_shaPad m⟩, length_hexEnc, hexEnc_getElem?,
    fun _ => hexDigit_of_lt, fun n _ => hexDigit_ten_add n, fun _ _ h => hexEnc_injective h⟩

end Sys2Proof.Proofs.HashMessage
end

section
/-! PROOF. The steps that no instruction names (42_protocol R120, R125): ZU-CORE at rest, at a place without a message
row, and what its step is there, session state by session state. -/

namespace Sys2Proof.Proofs.SilentSteps
open Sys2Proof Sys2Proof.Machine Sys2Proof.Safety

/-! ### At rest -/

theorem busy_of_running {s : State} (hs : Running s) : s.port.busy = true := hs.1

theorem resting_iff (s : State) : resting s = true ↔ s.seq.proc = .idle ∧ s.rsa.filling = false := by
  rw [resting, Bool.and_eq_true, beq_iff_eq, Bool.not_eq_true']

theorem filling_of_resting {s : State} (hrest : resting s = true) : s.rsa.filling = false :=
  ((resting_iff s).1 hrest).2

/-- Clearing the mark that filler is being drawn (log 19) changes nothing at rest. -/
theorem clear_filling_of_resting {s : State} (hrest : resting s = true) : { s.rsa with filling := false } = s.rsa := by
  rw [← filling_of_resting hrest]

/-! ### The step at each silent place -/

section
variable {s : State} (hs : Running s) (hrest : resting s = true)
include hs hrest

theorem step_of_no_message (htag : sessionTag s.seq.sess s.seq.phase = none) : step s = s.silentStep := by
  obtain ⟨hproc, hfill⟩ := (resting_iff s).1 hrest
  exact step_silent_place hs hproc hfill htag

theorem step_checkSent (hsess : s.seq.sess = .checkSent) : step s = .next (s.goSess .awaitM1) := by
  rw [step_of_no_message hs hrest (by rw [hsess]; rfl)]
  simp [State.silentStep, busy_of_running hs, filling_of_resting hrest, hsess]

theorem step_challengeSent (hsess : s.seq.sess = .challengeSent) : step s = .next (s.goSess .awaitM3) := by
  rw [step_of_no_message hs hrest (by rw [hsess]; rfl)]
  simp [State.silentStep, busy_of_running hs, filling_of_resting hrest, hsess]

theorem step_authenticated (hsess : s.seq.sess = .authenticated) : step s = .next s.authenticatedStep := by
  rw [step_of_no_message hs hrest (by rw [hsess]; rfl)]
  simp [State.silentStep, busy_of_running hs, filling_of_resting hrest, hsess]

/-- With no session active, the place is one of validation (R134 to R139). -/
theorem step_noSession (hsess : s.seq.sess = .noSession) : step s = s.runSilentStep := by
  rw [step_of_no_message hs hrest (by rw [hsess]; rfl)]
  simp [State.silentStep, busy_of_running hs, filling_of_resting hrest, hsess]

end

/-! ### Authenticated (R125) -/

theorem authenticatedStep_confirming {s : State} (hrole : s.ses.role = .confirming) :
    s.authenticatedStep = s.goSess .sessionDone := by
  rw [State.authenticatedStep, hrole]

theorem authenticatedStep_updating {s : State} (hrole : s.ses.role = .updating) :
    s.authenticatedStep = s.goSess .awaitImageSize := by
  rw [State.authenticatedStep, hrole]

/-- Settles O32: each of the three states is silent, and its step is one `goSess`, at `Authenticated` by the role. -/
theorem silentSessionSteps : Obligations.SilentSessionSteps := by
  refine fun s hs hrest => ⟨step_checkSent hs hrest, step_challengeSent hs hrest, fun hsess hrole => ?_,
    fun hsess hrole => ?_⟩
  · rw [step_authenticated hs hrest hsess, authenticatedStep_confirming hrole, State.goSess]
  · rw [step_authenticated hs hrest hsess, authenticatedStep_updating hrole, State.goSess]

end Sys2Proof.Proofs.SilentSteps
end

section
/-! PROOF. Validation's comparison (42_protocol R137 to R139): what an attestation that matches is, the first one that
does not, and the comparison's three ends. -/

namespace Sys2Proof.Proofs.ValidationComparison
open Sys2Proof Sys2Proof.Machine Sys2Proof.Safety
open Sys2Proof.Proofs.HashMessage Sys2Proof.Proofs.SilentSteps

/-! ### The attestation match (R137) -/

theorem attestEq_raw64 (d a : Bytes) : attestEq .raw64 d a = true ↔ a = d := beq_iff_eq

theorem attestEq_hex128 (d a : Bytes) : attestEq .hex128 d a = true ↔ a = hexEnc d := beq_iff_eq

theorem length_of_attestEq {enc : AttestEnc} {d a : Bytes} (hd : d.length = 64) (h : attestEq enc d a = true) :
    a.length = if enc = .raw64 then 64 else 128 := by
  cases enc with
  | raw64 => rw [(attestEq_raw64 d a).1 h, hd, if_pos rfl]
  | hex128 => rw [(attestEq_hex128 d a).1 h, length_hexEnc, hd, if_neg (by decide)]

theorem attestEq_eq_false_of_length {enc : AttestEnc} {d a : Bytes} (hd : d.length = 64)
    (hlen : a.length ≠ if enc = .raw64 then 64 else 128) : attestEq enc d a = false :=
  Bool.eq_false_iff.2 fun h => hlen (length_of_attestEq hd h)

/-! ### The first mismatch (R138) -/

/-- The attestations before the first mismatch are counted, whatever stands after it. -/
theorem firstMismatch_append_cons {enc : AttestEnc} {d a : Bytes} {pre : List Bytes} (post : List Bytes) (n : Nat)
    (hpre : ∀ x ∈ pre, attestEq enc d x = true) (ha : attestEq enc d a = false) :
    firstMismatch enc d n (pre ++ a :: post) = some (n + pre.length) := by
  induction pre generalizing n with
  | nil => simp [firstMismatch, ha]
  | cons x pre ih =>
    obtain ⟨hx, hrest⟩ := List.forall_mem_cons.1 hpre
    rw [List.cons_append, firstMismatch, if_pos hx, ih (n + 1) hrest, List.length_cons]
    congr 1
    omega

/-! ### The comparison (R138, R139) -/

theorem valCompareStep_header {s : State} {h : ImageHeader} (hhdr : s.run.hdr = some h) (hdig : s.run.digest ≠ h.hash) :
    s.valCompareStep = s.raise .headerMismatch := by
  simp [State.valCompareStep, hhdr, hdig]

theorem valCompareStep_attest {s : State} {h : ImageHeader} {i : Nat} (hhdr : s.run.hdr = some h)
    (hdig : s.run.digest = h.hash)
    (hmis : firstMismatch s.cfg.attestEnc s.run.digest 1 s.run.attests = some i) :
    s.valCompareStep = s.raise (.attestMismatch i) := by
  simp [State.valCompareStep, hhdr, ← hdig, hmis]

theorem valCompareStep_agreement {s : State} {h : ImageHeader} (hhdr : s.run.hdr = some h)
    (hdig : s.run.digest = h.hash)
    (hmis : firstMismatch s.cfg.attestEnc s.run.digest 1 s.run.attests = none) :
    s.valCompareStep = s.readyToInstall h := by
  simp [State.valCompareStep, hhdr, ← hdig, hmis]

theorem step_valCompare {s : State} (hs : Running s) (hrest : resting s = true) (hsess : s.seq.sess = .noSession)
    (hrun : s.seq.run = .valCompare) : step s = .next s.valCompareStep := by
  rw [step_noSession hs hrest hsess, State.runSilentStep, hrun]

theorem readyToInstall_of_resting {s : State} (hrest : resting s = true) (h : ImageHeader) :
    s.readyToInstall h =
      { s with
        port := { s.port with busy := false, resStatus := .ok, resData := [] }
        seq := { run := .runReady, sess := .noSession, proc := .idle, phase := .start }
        out := { ready := true, installHdr := h, installPayload := s.run.decImg.drop 77 } } := by
  rw [State.readyToInstall, State.complete, clear_filling_of_resting hrest, imagePayload, imgHdrLen]

/-- Settles O36: a match is equality of byte strings, whose lengths follow; the comparison checks the header, then looks
for the first mismatch. -/
theorem validationCompares : Obligations.ValidationCompares := by
  refine ⟨attestEq_raw64, attestEq_hex128, fun _ _ _ => attestEq_eq_false_of_length, rfl,
    fun s h hs hrest hsess hrun hhdr => ?_⟩
  rw [step_valCompare hs hrest hsess hrun]
  refine ⟨fun hdig hall => ?_, fun hdig => ?_, fun pre post a hdig hsplit hpre ha => ?_⟩
  · have hmis := (firstMismatch_eq_none s.cfg.attestEnc s.run.digest 1 s.run.attests).2 hall
    rw [valCompareStep_agreement hhdr hdig hmis, readyToInstall_of_resting hrest]
  · rw [valCompareStep_header hhdr hdig]
  · have hmis := firstMismatch_append_cons post 1 hpre ha
    rw [← hsplit, Nat.add_comm] at hmis
    rw [valCompareStep_attest hhdr hdig hmis]

end Sys2Proof.Proofs.ValidationComparison
end

section
/-! PROOF. RSA offset 0x40 (40_rsa R172): a write sets the key select; a read answers the completion status, which the
poll decides on without the window. -/

namespace Sys2Proof.Proofs.KeyselAndStatus
open Sys2Proof Sys2Proof.Machine

/-! ### The poll after one read (R82) -/

@[simp] theorem setSuspect_env (c : CoreId) (s : State) : (s.setSuspect c).env = s.env := by
  cases c <;> rfl

@[simp] theorem setSuspect_rsaWin (c : CoreId) (s : State) : (s.setSuspect c).rsaWin = s.rsaWin := by
  cases c <;> rfl

@[simp] theorem rsaPolled_env (w : Word) (s : State) : (s.rsaPolled w).env = s.env := by
  obtain ⟨-, h⟩ | ⟨-, -, h⟩ | ⟨-, -, h⟩ := s.rsaPolled_cases w <;> simp [h]

@[simp] theorem rsaPolled_rsaWin (w : Word) (s : State) : (s.rsaPolled w).rsaWin = s.rsaWin := by
  obtain ⟨-, h⟩ | ⟨-, -, h⟩ | ⟨-, -, h⟩ := s.rsaPolled_cases w <;> simp [h]

/-- The timeout ends at rest and a further read is a position of the poll: only the done value leads to the data. -/
theorem rsaPolled_proc_eq_rsaRdData_iff (w : Word) (s : State) :
    (s.rsaPolled w).seq.proc = .rsaRdData 0 ↔ w = s.cfg.rsaDone := by
  obtain ⟨hw, h⟩ | ⟨hw, -, h⟩ | ⟨hw, -, h⟩ := s.rsaPolled_cases w
  · exact iff_of_true (by simp [h]) hw
  · exact iff_of_false (by simp [h]) hw
  · exact iff_of_false (by simp [h]) hw

/-! ### The key select is not looked at -/

theorem raise_winRsaKeysel (c : Cause) (v : Word) (s : State) :
    (s.winRsaKeysel v).raise c = (s.raise c).winRsaKeysel v := by
  rw [State.raise_eq, State.raise_eq]
  rfl

theorem rsaPolled_winRsaKeysel (w v : Word) (s : State) :
    (s.winRsaKeysel v).rsaPolled w = (s.rsaPolled w).winRsaKeysel v := by
  unfold State.rsaPolled
  simp only [apply_ite (State.winRsaKeysel v), ← raise_winRsaKeysel]
  rfl

/-! ### The two accesses -/

/-- A status read takes the core's next answer and polls on it (R91). -/
theorem exec_rsaRdStatus (s : State) : exec .rsaRdStatus s = .next (s.tookRsaStatus.rsaPolled s.rsaStatusWord) := rfl

theorem exec_rsaRdStatus_winRsaKeysel (v : Word) (s : State) :
    exec .rsaRdStatus (s.winRsaKeysel v) = .next ((s.tookRsaStatus.rsaPolled s.rsaStatusWord).winRsaKeysel v) := by
  rw [← rsaPolled_winRsaKeysel]
  rfl

theorem exec_rsaWrKeysel (s : State) :
    exec .rsaWrKeysel s =
      .next ((s.winRsaKeysel (keyIndexOf s.cfg.keyIndex s.rsa.key)).goProc .rsaWrStart) := rfl

theorem rsaStatusWord_of_cons {s : State} {w : Word} {ws : List Word} (h : s.env.rsaStatus = w :: ws) :
    s.rsaStatusWord = w := by
  rw [State.rsaStatusWord, h, nextAnswer]

/-- Settles O14: the write is one update of the key select; the poll decides on the answered word alone, and commutes
with a write of the key select. -/
theorem keyselAndStatusAreTwoRegisters : Obligations.KeyselAndStatusAreTwoRegisters := by
  refine ⟨fun s => ?_, fun s w ws h => ?_, fun s v => ⟨rfl, ?_⟩⟩
  · rw [exec_rsaWrKeysel]
    cases s.rsa.key <;> rfl
  · have hw := rsaStatusWord_of_cons h
    refine ⟨hw, _, exec_rsaRdStatus s, ?_, ?_⟩
    · rw [rsaPolled_env, State.tookRsaStatus, h, List.tail_cons]
    · rw [rsaPolled_proc_eq_rsaRdData_iff, hw, State.tookRsaStatus]
  · exact ⟨_, exec_rsaRdStatus s, rsaPolled_proc_eq_rsaRdData_iff _ _, exec_rsaRdStatus_winRsaKeysel v s,
      rsaPolled_rsaWin _ _⟩

end Sys2Proof.Proofs.KeyselAndStatus
end

section
/-! PROOF. The three code formats (30_encoding R65 to R69, R73): a code is the composition of its fields, each decoder is
the inverse of `encode`, and the codes that decode are those of the mask tables. -/

namespace Sys2Proof.Proofs.Codes
open Sys2Proof

/-! ### A code is made of its fields -/

theorem ofBool_beq_one (b : BitVec 1) : BitVec.ofBool (b == 1) = b := by
  revert b
  decide

theorem ofBool_inj {a b : Bool} (h : BitVec.ofBool a = BitVec.ofBool b) : a = b := by
  revert a b
  decide

theorem extractLsb'_one {n : Nat} (v : BitVec n) (k : Nat) : v.extractLsb' k 1 = BitVec.ofBool (v.getLsbD k) := by
  ext i hi
  obtain rfl : i = 0 := by omega
  simp

/-- A command word whose reserved bits are 0 is the word of its three fields (R65). -/
theorem cmdWord_fields {w : BitVec 32} (h : cmdReserved w = 0) : cmdWord (cmdOp w) (cmdKey w) (cmdHex w == 1) = w := by
  rw [cmdWord, ofBool_beq_one, ← h, cmdReserved, cmdHex, cmdKey, cmdOp,
    BitVec.extractLsb'_append_extractLsb'_eq_extractLsb' (by decide : 11 = 10 + 1),
    BitVec.extractLsb'_append_extractLsb'_eq_extractLsb' (by decide : 10 = 8 + 2),
    BitVec.extractLsb'_append_extractLsb'_eq_extractLsb' (by decide : 8 = 0 + 8)]
  exact BitVec.extractLsb'_eq_self

/-- A descriptor is the word of its three fields (R67). -/
theorem busWord_fields (d : BitVec 10) : busWord (busCore d) (busIsWrite d) (d.extractLsb' 0 8) = d := by
  have hcore : (busCore d == .sha3) = d.getLsbD 9 := by
    cases h : d.getLsbD 9 <;> simp [busCore, h, -BitVec.getLsbD_eq_getElem]
  rw [busWord, hcore, busIsWrite, ← extractLsb'_one, ← extractLsb'_one,
    BitVec.extractLsb'_append_extractLsb'_eq_extractLsb' (by decide : 9 = 8 + 1),
    BitVec.extractLsb'_append_extractLsb'_eq_extractLsb' (by decide : 8 = 0 + 8)]
  exact BitVec.extractLsb'_eq_self

/-- The offset of a data word has its index in bits 5:2 and nothing else (R61). -/
theorem dataOffset_busIndex {d : BitVec 10} (hlow : busOffset d < 0x40) (haligned : busOffset d % 4 = 0) :
    dataOffset (busIndex d) = d.extractLsb' 0 8 := by
  apply BitVec.eq_of_toNat_eq
  simp only [busOffset, dataOffset, busIndex, BitVec.toNat_ofNat, BitVec.val_toFin, BitVec.extractLsb'_toNat,
    Nat.shiftRight_eq_div_pow] at *
  omega

/-! ### Decoding is the inverse of encoding -/

theorem decode_encode (i : Instr) : decode (encode i) = .ok i := by
  cases i with
  | rsaEncrypt key | rsaDecrypt key => cases key <;> decide
  | sha3Hash hex => cases hex <;> decide
  | rsaWrData k | rsaRdData k => revert k; decide
  | _ => decide

theorem codeOfKey_of_keyOfCode {k : BitVec 2} {key : KeySlot} (h : keyOfCode k = .ok key) : codeOfKey key = k := by
  revert k
  cases key <;> decide

theorem keyedCmd_ok {w : BitVec 32} {f : KeySlot → Instr} {i : Instr} (h : keyedCmd w f = .ok i) :
    ∃ key, i = f key ∧ cmdKey w = codeOfKey key ∧ cmdHex w = 0 := by
  unfold keyedCmd at h
  split at h
  · cases h
  · cases hk : keyOfCode (cmdKey w) with
    | error e => simp [hk, Except.map] at h
    | ok key =>
      simp only [hk, Except.map, Except.ok.injEq] at h
      exact ⟨key, h.symm, (codeOfKey_of_keyOfCode hk).symm, by simp_all⟩

theorem plainCmd_ok {w : BitVec 32} {i j : Instr} (h : plainCmd w j = .ok i) :
    i = j ∧ cmdKey w = 0 ∧ cmdHex w = 0 := by
  unfold plainCmd at h
  split at h
  · cases h
  · split at h
    · cases h
    · split at h
      · cases h
      · cases h
        simp_all

theorem eq_of_toNat_eq_lit {n : Nat} {v : BitVec n} {k : Nat} (h : v.toNat = k) : v = BitVec.ofNat n k := by
  rw [← h, BitVec.ofNat_toNat, BitVec.setWidth_eq]

theorem encode_of_decodeCmd {w : BitVec 32} {i : Instr} (h : decodeCmd w = .ok i) : encode i = .cmd w := by
  unfold decodeCmd at h
  split at h
  · cases h
  · rename_i hres
    rw [← cmdWord_fields (not_not.1 hres)]
    split at h <;> rename_i hop
    · obtain ⟨key, rfl, hkey, hhex⟩ := keyedCmd_ok h
      rw [eq_of_toNat_eq_lit hop, hkey, hhex]; rfl
    · obtain ⟨key, rfl, hkey, hhex⟩ := keyedCmd_ok h
      rw [eq_of_toNat_eq_lit hop, hkey, hhex]; rfl
    · obtain ⟨rfl, hkey, hhex⟩ := plainCmd_ok h
      rw [eq_of_toNat_eq_lit hop, hkey, hhex]; rfl
    · split at h
      · cases h
      · split at h
        · cases h
        · rename_i hkey
          cases h
          rw [eq_of_toNat_eq_lit hop, not_not.1 hkey]; rfl
    · obtain ⟨rfl, hkey, hhex⟩ := plainCmd_ok h
      rw [eq_of_toNat_eq_lit hop, hkey, hhex]; rfl
    · cases h

/-- One offset listed in a table of the window (R67). -/
theorem extract_offset {d : BitVec 10} {k : Nat} (h : busOffset d = k) : d.extractLsb' 0 8 = BitVec.ofNat 8 k :=
  eq_of_toNat_eq_lit h

theorem encode_of_decodeRsaWrite {d : BitVec 10} {i : Instr} (haligned : busOffset d % 4 = 0)
    (h : decodeRsaWrite d = .ok i) : encode i = .bus (busWord .rsa true (d.extractLsb' 0 8)) := by
  unfold decodeRsaWrite at h
  split at h
  · cases h
    rw [← dataOffset_busIndex ‹_› haligned]; rfl
  · split at h <;> cases h <;> rw [extract_offset ‹_›] <;> rfl

theorem encode_of_decodeRsaRead {d : BitVec 10} {i : Instr} (haligned : busOffset d % 4 = 0)
    (h : decodeRsaRead d = .ok i) : encode i = .bus (busWord .rsa false (d.extractLsb' 0 8)) := by
  unfold decodeRsaRead at h
  split at h
  · cases h
    rw [← dataOffset_busIndex ‹_› haligned]; rfl
  · split at h <;> cases h; rw [extract_offset ‹_›]; rfl

theorem encode_of_decodeShaWrite {d : BitVec 10} {i : Instr} (h : decodeShaWrite d = .ok i) :
    encode i = .bus (busWord .sha3 true (d.extractLsb' 0 8)) := by
  unfold decodeShaWrite at h
  split at h <;> cases h <;> rw [extract_offset ‹_›] <;> rfl

theorem encode_of_decodeShaRead {d : BitVec 10} {i : Instr} (h : decodeShaRead d = .ok i) :
    encode i = .bus (busWord .sha3 false (d.extractLsb' 0 8)) := by
  unfold decodeShaRead at h
  split at h <;> cases h <;> rw [extract_offset ‹_›] <;> rfl

theorem encode_of_decodeBus {d : BitVec 10} {i : Instr} (h : decodeBus d = .ok i) : encode i = .bus d := by
  unfold decodeBus at h
  split at h
  · cases h
  · have haligned : busOffset d % 4 = 0 := not_not.1 ‹_›
    conv_rhs => rw [← busWord_fields d]
    split at h <;> rename_i hcore hwrite <;> rw [hcore, hwrite]
    · exact encode_of_decodeRsaWrite haligned h
    · exact encode_of_decodeRsaRead haligned h
    · exact encode_of_decodeShaWrite h
    · exact encode_of_decodeShaRead h

theorem encode_of_decodeMsg {t : BitVec 8} {i : Instr} (h : decodeMsg t = .ok i) : encode i = .msg t := by
  unfold decodeMsg at h
  split at h <;> cases h <;> rw [eq_of_toNat_eq_lit (v := t) ‹_›] <;> rfl

/-- Settles O1: each decoder reads back the fields that `encode` wrote, and a code is determined by its fields. -/
theorem codesDecodeAndEncodeAgree : Obligations.CodesDecodeAndEncodeAgree := by
  intro c i
  constructor
  · intro h
    cases c with
    | cmd w => exact encode_of_decodeCmd h
    | bus d => exact encode_of_decodeBus h
    | msg t => exact encode_of_decodeMsg h
  · rintro rfl
    exact decode_encode i

/-! ### The legal codes are the mask tables -/

theorem wellFormed_encode (i : Instr) : (encode i).wellFormed = true := by
  cases i with
  | rsaEncrypt key => exact Laws.LegalCode.rsaEncrypt key
  | rsaDecrypt key => exact Laws.LegalCode.rsaDecrypt key
  | sha3Hash hex => exact Laws.LegalCode.sha3Hash hex
  | rsaWrData k => exact Laws.LegalCode.rsaWrData k
  | rsaRdData k => exact Laws.LegalCode.rsaRdData k
  | _ => rfl

/-- A key field that is not 3 names a slot (R59). -/
theorem exists_codeOfKey {k : BitVec 2} (h : k ≠ 3) : ∃ key, codeOfKey key = k := by
  have hslots : ∀ k : BitVec 2, k ≠ 3 → k = 0 ∨ k = 1 ∨ k = 2 := by decide
  obtain rfl | rfl | rfl := hslots k h
  · exact ⟨.devicePrivate, rfl⟩
  · exact ⟨.updatingOrgPublic, rfl⟩
  · exact ⟨.confirmingOrgPublic, rfl⟩

theorem cmdOp_of_legal {w : BitVec 32} (h : cmdOpLegal w = true) :
    cmdOp w = 1 ∨ cmdOp w = 2 ∨ cmdOp w = 3 ∨ cmdOp w = 4 ∨ cmdOp w = 5 := by
  simp only [cmdOpLegal, Bool.and_eq_true, decide_eq_true_eq] at h
  bv_omega

theorem exists_encode_cmd {w : BitVec 32} (h : (Code.cmd w).wellFormed = true) : ∃ i, encode i = .cmd w := by
  simp only [Code.wellFormed, Bool.and_eq_true, cmdKeyLegal, cmdHexLegal, cmdReservedLegal, Bool.or_eq_true,
    beq_iff_eq, bne_iff_ne] at h
  obtain ⟨⟨⟨hop, hkey, hstray⟩, hhex⟩, hres⟩ := h
  rw [← cmdWord_fields hres]
  obtain ⟨key, hcode⟩ := exists_codeOfKey hkey
  have hnohex (hop : cmdOp w ≠ 4) : (cmdHex w == 1) = false := by
    rw [hhex.resolve_right hop]; rfl
  have hnokey (h1 : cmdOp w ≠ 1) (h2 : cmdOp w ≠ 2) : cmdKey w = 0 := (hstray.resolve_right h2).resolve_right h1
  obtain hop | hop | hop | hop | hop := cmdOp_of_legal hop
  · exact ⟨.rsaEncrypt key, by rw [hnohex (by rw [hop]; decide), hop, ← hcode]; rfl⟩
  · exact ⟨.rsaDecrypt key, by rw [hnohex (by rw [hop]; decide), hop, ← hcode]; rfl⟩
  · exact ⟨.sha3Reset, by
      rw [hnohex (by rw [hop]; decide), hnokey (by rw [hop]; decide) (by rw [hop]; decide), hop]; rfl⟩
  · exact ⟨.sha3Hash (cmdHex w == 1), by
      rw [hnokey (by rw [hop]; decide) (by rw [hop]; decide), hop]; rfl⟩
  · exact ⟨.protoRun, by
      rw [hnohex (by rw [hop]; decide), hnokey (by rw [hop]; decide) (by rw [hop]; decide), hop]; rfl⟩

/-- A row with every bit in its mask admits its pattern alone. -/
theorem eq_of_admits_full {p d : BitVec 10} (h : MaskRow.admits ⟨p, 0x3FF⟩ d = true) : d = p := by
  have hd : d &&& 0x3FF = p := beq_iff_eq.1 h
  exact BitVec.and_allOnes.symm.trans hd

/-- A data-word row leaves bits 5:2 open, the word index (R61), and fixes the other fields. -/
theorem eq_busWord_of_admits_data {wr : Bool} {d : BitVec 10}
    (h : MaskRow.admits ⟨busWord .rsa wr 0, 0x3C3⟩ d = true) : busWord .rsa wr (dataOffset (busIndex d)) = d := by
  have hd : d &&& 0x3C3 = busWord .rsa wr 0 := beq_iff_eq.1 h
  have field (k n : Nat) : d.extractLsb' k n &&& (0x3C3#10).extractLsb' k n = (busWord .rsa wr 0).extractLsb' k n := by
    rw [← BitVec.extractLsb'_and, ← hd]; rfl
  have hlow : d.extractLsb' 0 2 = 0 := BitVec.and_allOnes.symm.trans ((field 0 2).trans (by cases wr <;> rfl))
  have hhigh : d.extractLsb' 6 2 = 0 := BitVec.and_allOnes.symm.trans ((field 6 2).trans (by cases wr <;> rfl))
  have hcore : busCore d = .rsa := by
    have hbit : d.getLsbD 9 = false := by
      have h9 : d.extractLsb' 9 1 = BitVec.ofBool false :=
        BitVec.and_allOnes.symm.trans ((field 9 1).trans (by cases wr <;> rfl))
      rw [extractLsb'_one] at h9
      exact ofBool_inj h9
    rw [busCore, hbit]; rfl
  have hwrite : busIsWrite d = wr := by
    have h8 : d.extractLsb' 8 1 = BitVec.ofBool wr :=
      BitVec.and_allOnes.symm.trans ((field 8 1).trans (by cases wr <;> rfl))
    rw [extractLsb'_one] at h8
    exact ofBool_inj h8
  have hoff : dataOffset (busIndex d) = d.extractLsb' 0 8 := by
    have h0 := congrArg BitVec.toNat hlow
    have h6 := congrArg BitVec.toNat hhigh
    simp only [BitVec.extractLsb'_toNat, Nat.shiftRight_eq_div_pow, BitVec.ofNat_eq_ofNat, BitVec.toNat_ofNat] at h0 h6
    refine dataOffset_busIndex ?_ ?_ <;> rw [busOffset, BitVec.extractLsb'_toNat, Nat.shiftRight_eq_div_pow] <;> omega
  rw [hoff, ← hcore, ← hwrite, busWord_fields]

theorem exists_encode_bus {d : BitVec 10} (h : (Code.bus d).wellFormed = true) : ∃ i, encode i = .bus d := by
  obtain ⟨row, hrow, hd⟩ := List.any_eq_true.1 h
  simp only [busRows, List.cons_append, List.nil_append, List.mem_cons, List.not_mem_nil, or_false] at hrow
  obtain rfl | rfl | rfl | rfl | rfl | rfl | rfl | rfl | rfl | rfl | rfl | rfl | rfl := hrow
  · exact ⟨.rsaWrData (busIndex d), congrArg Code.bus (eq_busWord_of_admits_data (wr := true) hd)⟩
  · exact ⟨.rsaWrKeysel, congrArg Code.bus (eq_of_admits_full hd).symm⟩
  · exact ⟨.rsaWrStart, congrArg Code.bus (eq_of_admits_full hd).symm⟩
  · exact ⟨.rsaRdStatus, congrArg Code.bus (eq_of_admits_full hd).symm⟩
  · exact ⟨.rsaRdData (busIndex d), congrArg Code.bus (eq_busWord_of_admits_data (wr := false) hd)⟩
  · exact ⟨.rsaWrStop, congrArg Code.bus (eq_of_admits_full hd).symm⟩
  · exact ⟨.sha3WrReset, congrArg Code.bus (eq_of_admits_full hd).symm⟩
  · exact ⟨.sha3WrStart, congrArg Code.bus (eq_of_admits_full hd).symm⟩
  · exact ⟨.sha3RdReady, congrArg Code.bus (eq_of_admits_full hd).symm⟩
  · exact ⟨.sha3RdFull, congrArg Code.bus (eq_of_admits_full hd).symm⟩
  · exact ⟨.sha3RdDigest, congrArg Code.bus (eq_of_admits_full hd).symm⟩
  · exact ⟨.sha3WrFifo, congrArg Code.bus (eq_of_admits_full hd).symm⟩
  · exact ⟨.sha3WrCount, congrArg Code.bus (eq_of_admits_full hd).symm⟩

theorem exists_encode_msg {t : BitVec 8} (h : (Code.msg t).wellFormed = true) : ∃ i, encode i = .msg t := by
  have ht : t ∈ msgTags := List.contains_iff_mem.1 h
  simp only [msgTags, List.mem_cons, List.not_mem_nil, or_false] at ht
  obtain rfl | rfl | rfl | rfl | rfl | rfl | rfl | rfl | rfl | rfl := ht
  · exact ⟨.updateCheck, rfl⟩
  · exact ⟨.m1, rfl⟩
  · exact ⟨.m2, rfl⟩
  · exact ⟨.m3, rfl⟩
  · exact ⟨.updateImage, rfl⟩
  · exact ⟨.ok, rfl⟩
  · exact ⟨.imageData, rfl⟩
  · exact ⟨.orgChallenge, rfl⟩
  · exact ⟨.deviceChallenge, rfl⟩
  · exact ⟨.orgResponse, rfl⟩

/-- Settles O2: a code that decodes is an encoding, which stands in the tables; a code of the tables is the encoding
of its row's instruction. -/
theorem legalCodesAreTheTables : Obligations.LegalCodesAreTheTables := by
  intro c
  constructor
  · rintro ⟨i, h⟩
    rw [← (codesDecodeAndEncodeAgree c i).1 h]
    exact wellFormed_encode i
  · intro h
    obtain ⟨i, rfl⟩ : ∃ i, encode i = c := by
      cases c with
      | cmd w => exact exists_encode_cmd h
      | bus d => exact exists_encode_bus h
      | msg t => exact exists_encode_msg h
    exact ⟨i, decode_encode i⟩

theorem exists_decode_error {c : Code} (h : c.wellFormed = false) : ∃ e, decode c = .error e := by
  cases hd : decode c with
  | error e => exact ⟨e, rfl⟩
  | ok i =>
    rw [(legalCodesAreTheTables c).1 ⟨i, hd⟩] at h
    cases h

/-- Settles O3: the decoder evaluates on each of the eleven codes. -/
theorem codesFromTheTables : Obligations.CodesFromTheTables := by
  unfold Obligations.CodesFromTheTables
  decide

end Sys2Proof.Proofs.Codes
end

section
/-! PROOF. What a step fetches and runs (10_state R17, R18, 30_encoding R73, 20_memory R43): the presented word, the
transaction at `proc`, the message at the session's place, and the codes that are refused. -/

namespace Sys2Proof.Proofs.Fetching
open Sys2Proof Sys2Proof.Machine Sys2Proof.Safety
open Sys2Proof.Proofs.Codes Sys2Proof.Proofs.UnissuedRegisters

/-! ### What is fetched -/

/-- Settles O5: a step without reset or request runs what `fetch` gives, and `fetch` looks at the port, then at `proc`,
then at the session's place. -/
theorem stepRunsFetchedInstruction : Obligations.StepRunsFetchedInstruction := by
  refine ⟨fun s c i hr hq hf hd => ?_, fun s l rest hb hp => ?_, fun s i hb hi => ?_, fun s t hb hp hf ht => ?_⟩
  · rw [step_fetch hr hq hf, runCode_ok hd]
  · simp [fetch, hb, hp]
  · simp [fetch, hb, hi]
  · simp [fetch, hb, hp, procInstr, hf, ht]

/-! ### A placed table word (log 15) -/

/-- Where a transaction is issued, it is the one at that position. -/
theorem procInstr_of_procOf {i : Instr} {s : State} {p : Proc} (h : procOf i s = some p) : procInstr p = some i := by
  cases i <;> simp only [procOf, Option.some.injEq, reduceCtorEq] at h <;> subst h <;> rfl

theorem step_presenting {s : State} {w : BitVec 32} {i : Instr} (hi : decodeCmd w = .ok i) :
    step (s.presenting w) = exec i (s.presenting w) := by
  rw [step_presented (l := ⟨w, []⟩) rfl rfl rfl rfl, runCode_ok (c := .cmd w) hi]

theorem step_atProc {s : State} {p : Proc} {i : Instr} (hp : procInstr p = some i) :
    step (s.atProc p) = exec i (s.atProc p) := step_proc ⟨rfl, rfl, rfl⟩ hp

theorem step_requesting {s : State} {d : BitVec 10} {i : Instr} (hi : decodeBus d = .ok i) :
    step (s.requesting d) = exec i (s.requesting d).dropRequest := by
  rw [step_request (d := d) rfl rfl, runCode_ok (c := .bus d) hi]

theorem step_atSession {s : State} {x : SessState} {p : Phase} {t : BitVec 8} {i : Instr}
    (ht : sessionTag x p = some t) (hi : decodeMsg t = .ok i) :
    step (s.atSession x p) = exec i (s.atSession x p) := step_message ⟨rfl, rfl, rfl⟩ rfl rfl ht hi

/-- Each tag of R69 is placed where the session fetches it. -/
theorem step_atTag {s : State} {t : BitVec 8} {i : Instr} (hi : decodeMsg t = .ok i) :
    step (s.atTag t) = exec i (s.atTag t).dropRequest := by
  have ht : t ∈ msgTags := by
    have hlegal := (legalCodesAreTheTables (.msg t)).1 ⟨i, hi⟩
    exact List.contains_iff_mem.1 hlegal
  simp only [msgTags, List.mem_cons, List.not_mem_nil, or_false] at ht
  obtain rfl | rfl | rfl | rfl | rfl | rfl | rfl | rfl | rfl | rfl := ht
  all_goals exact step_atSession rfl hi

/-- Settles O4: each of the four placings leads the next step to the word's instruction. -/
theorem placedInstructionRuns : Obligations.PlacedInstructionRuns := by
  intro s nbits w c i hc hi
  rw [State.withFetchWord, hc]
  change step (s.placing c) = exec i (s.placing c).dropRequest
  cases c with
  | cmd w => exact step_presenting hi
  | msg t => exact step_atTag hi
  | bus d =>
    have hd : decodeBus d = .ok i := hi
    unfold State.placing
    simp only [hd]
    cases hp : procOf i s with
    | some p => exact step_atProc (procInstr_of_procOf hp)
    | none => exact step_requesting hd

/-! ### Codes that are no instruction -/

/-- Settles O6: an illegal word does not decode, and what the port does with it is one record update. -/
theorem illegalCommandWordEndsAtOnce : Obligations.IllegalCommandWordEndsAtOnce := by
  rintro s l rest ⟨hb, hm, hr, hq, -⟩ hp hbad
  obtain ⟨e, he⟩ := exists_decode_error hbad
  rw [step_presented hr hq hb hp, runCode_error he]
  change s.illegalCommand = _
  rw [State.illegalCommand, State.gated_accepts hb hm, hp, List.tail_cons]

/-- A descriptor is misaligned by its own name exactly when its offset is no multiple of 4 (R43). -/
theorem decodeBus_error {d : BitVec 10} {e : DecodeError} (h : decodeBus d = .error e) :
    e = .misaligned ↔ d.toNat % 4 ≠ 0 := by
  have hmod : busOffset d % 4 = d.toNat % 4 := by
    simp only [busOffset, BitVec.extractLsb'_toNat, Nat.shiftRight_eq_div_pow]
    omega
  rw [← hmod]
  unfold decodeBus at h
  split at h
  · rename_i hmis
    cases h
    exact iff_of_true rfl hmis
  · rename_i hal
    refine iff_of_false (fun he => ?_) hal
    subst he
    split at h
    · unfold decodeRsaWrite at h
      split at h
      · cases h
      · split at h <;> cases h
    · unfold decodeRsaRead at h
      split at h
      · cases h
      · split at h <;> cases h
    · unfold decodeShaWrite at h
      split at h <;> cases h
    · unfold decodeShaRead at h
      split at h <;> cases h

/-- Settles O23: a code outside the tables is rejected with its decoder's error, and every fetched transaction is an
encoding. -/
theorem reservedAccessRefused : Obligations.ReservedAccessRefused := by
  refine ⟨fun s d hr hq hbad => ?_, fun s d hf => ?_⟩
  · obtain ⟨e, he⟩ := exists_decode_error hbad
    rw [step_request hr hq, runCode_error he]
    change Host.Outcome.refused (if e = .misaligned then _ else _) = _
    simp only [decodeBus_error he, ite_not]
  · obtain ⟨i, -, hcode⟩ := procInstr_of_fetch_bus hf
    rw [← hcode]
    exact wellFormed_encode i

end Sys2Proof.Proofs.Fetching
end

section
/-! PROOF. What one step can do, said once (10_state R18): the states that a step from between commands, from a position
of an engine procedure and from a place at rest leads to. Every invariant below is derived from `step_move`. -/

namespace Sys2Proof.Proofs.Moves
open Sys2Proof Sys2Proof.Machine Sys2Proof.Safety
open Sys2Proof.Proofs.SilentSteps

/-! ### Between commands (60_exceptions R147, R164) -/

/-- Where a step of the idle machine leads: nowhere, or to the end of a presented word's acceptance step. -/
inductive PortMove (s : State) : State → Prop
  | rest : PortMove s s
  | illegal : PortMove s
      { s with
        port := { s.port with resStatus := .illegal, resData := [] }
        err := ErrRec.clear
        out := { s.out with ready := false }
        env := { s.env with program := s.env.program.tail } }
  | raised (w : Word) (d : Bytes) (c : Cause) : PortMove s ((s.accept w d).raise c)
  | encryptNothing (w : Word) (d p : Bytes) {key : KeySlot} (n : Nat) (hkey : key ≠ .devicePrivate) :
      PortMove s (((s.accept w d).beginRsa .encrypt key p n).rsaReturn [])
  | encrypt (w : Word) (d p : Bytes) {key : KeySlot} (n : Nat) (hkey : key ≠ .devicePrivate) :
      PortMove s ((s.accept w d).beginRsa .encrypt key p n).startFilling
  | decrypt (w : Word) (d c : Bytes) (n : Nat) (b : Bytes) :
      PortMove s (((s.accept w d).beginRsa .decrypt .devicePrivate c n).loadBlock b)
  | shaReset (d : Bytes) : PortMove s
      { s.accept Instr.sha3Reset.word d with seq := { s.seq with proc := .shaWrReset, phase := .engine } }
  | hash (w : Word) (d m : Bytes) (hex : Bool) : PortMove s ((s.accept w d).hashBegin m hex)
  | run (d : Bytes) : PortMove s (s.accept Instr.protoRun.word d).startRun

theorem portMove_encryptBegin (w : Word) (d p : Bytes) (key : KeySlot) (s : State) :
    PortMove s ((s.accept w d).encryptBegin p key) := by
  obtain ⟨-, h⟩ | ⟨hkey, -, h⟩ | ⟨hkey, -, h⟩ := (s.accept w d).encryptBegin_cases p key <;> rw [h]
  · exact .raised w d _
  · exact .encryptNothing w d p _ hkey
  · exact .encrypt w d p _ hkey

theorem portMove_decryptBegin (w : Word) (d c : Bytes) (key : KeySlot) (s : State) :
    PortMove s ((s.accept w d).decryptBegin c key) := by
  obtain ⟨-, h⟩ | ⟨-, -, h⟩ | ⟨rfl, -, -, h⟩ := (s.accept w d).decryptBegin_cases c key <;> rw [h]
  · exact .raised w d _
  · exact .raised w d _
  · exact .decrypt w d c _ _

theorem portMove_of_gated {s u t : State} (hu : PortMove s u) (h : s.gated u = .next t) : PortMove s t := by
  obtain ⟨-, rfl⟩ | ⟨-, -, rfl⟩ := State.gated_cases h
  · exact .rest
  · exact hu

theorem portMove_of_decodeCmd {s t : State} {w : BitVec 32} {i : Instr} (hi : decodeCmd w = .ok i)
    (h : exec i s = .next t) : PortMove s t := by
  obtain ⟨key, rfl⟩ | ⟨key, rfl⟩ | rfl | ⟨hex, rfl⟩ | rfl := decodeCmd_ok hi
  · exact portMove_of_gated (portMove_encryptBegin _ _ _ key s) h
  · exact portMove_of_gated (portMove_decryptBegin _ _ _ key s) h
  · exact portMove_of_gated (.shaReset _) h
  · exact portMove_of_gated (.hash _ _ _ hex) h
  · exact portMove_of_gated (.run _) h

/-! ### In an engine procedure (40_rsa R83, 41_sha3 R102) -/

/-- The state after RSA output word i has been read. -/
def readOut (s : State) (i : Fin 16) : State :=
  { s with rsa := { s.rsa with out := blockSet s.rsa.out i (blockGet s.rsaWin.dout i) } }

/-- The state after the last output word has been read, with the block's bytes appended. -/
def blockOut (s : State) (i : Fin 16) (acc : Bytes) : State :=
  { s with rsa := { s.rsa with
      out := blockSet s.rsa.out i (blockGet s.rsaWin.dout i), acc := acc, k := s.rsa.k + 1 } }

/-- A status read counted by the RSA poll. -/
def rsaCounted (s : State) : State :=
  { s.tookRsaStatus with rsa := { s.rsa with pollcnt := s.rsa.pollcnt + 1 } }

/-- A ready read counted by the SHA3 poll. -/
def shaCounted (s : State) : State :=
  { s.tookShaReady with sha := { s.sha with pollcnt := s.sha.pollcnt + 1 } }

/-- The next FIFO word written. -/
def fifoWritten (s : State) : State :=
  { (s.winShaFifo (wordAt s.sha.msg s.sha.j)).setDirty true with sha := { s.sha with j := s.sha.j + 1 } }

/-- The next digest word read. -/
def digestRead (s : State) : State :=
  { s.tookDigest with sha := { s.sha with dig := s.sha.dig ++ beBytes s.digestWord } }

/-- Where a bus transaction leads. -/
inductive BusMove (s : State) : Instr → State → Prop
  | wrData (i : Fin 16) {p : Proc} (hp : inRsaBlock p = true) (hpoll : ∀ a, p ≠ .rsaPoll a) :
      BusMove s (.rsaWrData i) ((s.winRsaData i (blockGet s.rsa.inp i)).goProc p)
  | wrKeysel : BusMove s .rsaWrKeysel ((s.winRsaKeysel (keyIndexOf s.cfg.keyIndex s.rsa.key)).goProc .rsaWrStart)
  | wrStart : BusMove s .rsaWrStart (s.winRsaStart rsaStartValue).startRsaPoll
  | rsaDone : BusMove s .rsaRdStatus ((rsaCounted s).goProc (.rsaRdData 0))
  | rsaTimeout : BusMove s .rsaRdStatus (((rsaCounted s).setSuspect .rsa).raise (.hardwareTimeout .rsa))
  | rsaAgain (h : s.rsa.pollcnt + 1 < s.cfg.pollMax) :
      BusMove s .rsaRdStatus ((rsaCounted s).goProc (.rsaPoll (s.rsa.pollcnt + 2)))
  | rdData (i j : Fin 16) : BusMove s (.rsaRdData i) ((readOut s i).goProc (.rsaRdData j))
  | badHeader (i : Fin 16) (k : Nat) : BusMove s (.rsaRdData i) ((readOut s i).raise (.invalidPadding k))
  | opDone (i : Fin 16) (acc : Bytes) : BusMove s (.rsaRdData i) ((blockOut s i acc).rsaReturn acc)
  | fillNext (i : Fin 16) (acc : Bytes) (hop : s.rsa.op = .encrypt) :
      BusMove s (.rsaRdData i) (blockOut s i acc).startFilling
  | loadNext (i : Fin 16) (acc b : Bytes) : BusMove s (.rsaRdData i) ((blockOut s i acc).loadBlock b)
  | wrResetCommand (hcmd : s.port.cmd = Instr.sha3Reset.word) (v : Word) :
      BusMove s .sha3WrReset (((s.winShaReset v).setDirty false).complete .ok [])
  | wrReset (hcmd : s.port.cmd ≠ Instr.sha3Reset.word) (v : Word) :
      BusMove s .sha3WrReset (((s.winShaReset v).setDirty false).goProc (.shaWrFifo s.sha.j))
  | wrFifo (h : s.sha.j + 1 < s.sha.msg.length / 4) :
      BusMove s .sha3WrFifo ((fifoWritten s).goProc (.shaWrFifo (s.sha.j + 1)))
  | wrFifoLast (h : s.sha.msg.length / 4 ≤ s.sha.j + 1) : BusMove s .sha3WrFifo ((fifoWritten s).goProc .shaWrStart)
  | wrShaStart (v : Word) : BusMove s .sha3WrStart (s.winShaStart v).startShaPoll
  | shaDone : BusMove s .sha3RdReady ((shaCounted s).goProc (.shaRdDigest 0))
  | shaTimeout : BusMove s .sha3RdReady (((shaCounted s).setSuspect .sha3).raise (.hardwareTimeout .sha3))
  | shaAgain (h : s.sha.pollcnt + 1 < s.cfg.pollMax) :
      BusMove s .sha3RdReady ((shaCounted s).goProc (.shaPoll (s.sha.pollcnt + 2)))
  | rdDigest (k : Fin 16) (hk : k.val = (s.sha.dig.length + 4) / 4) :
      BusMove s .sha3RdDigest ((digestRead s).goProc (.shaRdDigest k))
  | hashedImage (hrun : s.seq.run = .valHash) : BusMove s .sha3RdDigest
      { digestRead s with
        run := { s.run with digest := s.sha.dig ++ beBytes s.digestWord }
        seq := { s.seq with run := .valCompare, proc := .idle, phase := .start } }
  | hashed (hrun : s.seq.run ≠ .valHash) (d : Bytes) : BusMove s .sha3RdDigest ((digestRead s).complete .ok d)

theorem busMove_rsaRdStatus (s : State) : BusMove s .rsaRdStatus (s.tookRsaStatus.rsaPolled s.rsaStatusWord) := by
  obtain ⟨-, h⟩ | ⟨-, -, h⟩ | ⟨-, hlt, h⟩ := s.tookRsaStatus.rsaPolled_cases s.rsaStatusWord <;> rw [h]
  · exact .rsaDone
  · exact .rsaTimeout
  · exact .rsaAgain hlt

theorem busMove_sha3RdReady (s : State) : BusMove s .sha3RdReady (s.tookShaReady.shaPolled s.shaReadyWord) := by
  obtain ⟨-, h⟩ | ⟨-, -, h⟩ | ⟨-, hlt, h⟩ := s.tookShaReady.shaPolled_cases s.shaReadyWord <;> rw [h]
  · exact .shaDone
  · exact .shaTimeout
  · exact .shaAgain hlt

theorem busMove_blockDone (i : Fin 16) (s : State) : BusMove s (.rsaRdData i) (readOut s i).blockDone := by
  unfold State.blockDone
  split <;> rename_i hop
  · obtain ⟨-, h⟩ | ⟨-, h⟩ := (readOut s i).encryptBlockDone_cases <;> rw [h]
    · exact .fillNext i _ hop
    · exact .opDone i _
  · obtain ⟨-, -, h⟩ | ⟨-, -, h⟩ | ⟨-, -, h⟩ := (readOut s i).decryptBlockDone_cases <;> rw [h]
    · exact .badHeader i _
    · exact .opDone i _
    · exact .loadNext i _ _

theorem busMove_rsaRdData {s t : State} {i : Fin 16} (h : exec (.rsaRdData i) s = .next t) :
    BusMove s (.rsaRdData i) t := by
  cases h
  split
  · exact .rdData i _
  · exact busMove_blockDone i s

theorem busMove_rsaWrData {s t : State} {i : Fin 16} (h : exec (.rsaWrData i) s = .next t) :
    BusMove s (.rsaWrData i) t := by
  cases h
  refine .wrData i ?_ ?_ <;> split <;> simp [inRsaBlock]

theorem busMove_sha3WrReset {s t : State} (h : exec .sha3WrReset s = .next t) : BusMove s .sha3WrReset t := by
  cases h
  split <;> rename_i hcmd
  · exact .wrResetCommand hcmd _
  · exact .wrReset hcmd _

theorem busMove_sha3WrFifo {s t : State} (h : exec .sha3WrFifo s = .next t) : BusMove s .sha3WrFifo t := by
  cases h
  split <;> rename_i hj
  · exact .wrFifo hj
  · exact .wrFifoLast (Nat.not_lt.1 hj)

theorem busMove_sha3RdDigest {s t : State} (h : exec .sha3RdDigest s = .next t) : BusMove s .sha3RdDigest t := by
  cases h
  split
  · rename_i k hk
    unfold digestNext at hk
    split at hk <;> cases hk
    exact .rdDigest _ (by simp [beBytes])
  · obtain ⟨hrun, h⟩ | ⟨hrun, h⟩ := (digestRead s).hashDone_cases
    · exact h ▸ .hashedImage (s := s) hrun
    · exact h ▸ .hashed (s := s) hrun _

theorem busMove_of_exec {s t : State} {i : Instr} {d : BitVec 10} (hi : encode i = .bus d) (h : exec i s = .next t) :
    BusMove s i t := by
  cases i with
  | rsaWrData i => exact busMove_rsaWrData h
  | rsaWrKeysel => cases h; exact .wrKeysel
  | rsaWrStart => cases h; exact .wrStart
  | rsaRdStatus => cases h; exact busMove_rsaRdStatus s
  | rsaRdData i => exact busMove_rsaRdData h
  | sha3WrReset => exact busMove_sha3WrReset h
  | sha3WrStart => cases h; exact .wrShaStart _
  | sha3RdReady => cases h; exact busMove_sha3RdReady s
  | sha3RdDigest => exact busMove_sha3RdDigest h
  | sha3WrFifo => exact busMove_sha3WrFifo h
  | rsaWrStop | sha3RdFull | sha3WrCount => cases h
  | _ => cases hi

theorem encode_procInstr {p : Proc} {i : Instr} (h : procInstr p = some i) : ∃ d, encode i = .bus d := by
  cases p <;> cases h <;> exact ⟨_, rfl⟩

/-! ### At rest: messages, silent session states, validation (42_protocol R118 to R139) -/

/-- The state from which a step raises: what the step took from outside before that, and the frame it dropped. -/
structure Spent (s u : State) : Prop where
  cfg : u.cfg = s.cfg
  port : u.port = s.port
  seq : u.seq = s.seq
  book : u.book = s.book
  run : u.run = s.run
  out : u.out = s.out
  stage : u.stage = s.stage
  role : u.ses.role = s.ses.role
  imgRcvd : u.ses.imgRcvd = s.ses.imgRcvd
  request : u.env.busRequest = s.env.busRequest
  sent : u.env.sent = s.env.sent

theorem spent_refl (s : State) : Spent s s := ⟨rfl, rfl, rfl, rfl, rfl, rfl, rfl, rfl, rfl, rfl, rfl⟩

theorem spent_tookRecv (s : State) : Spent s (s.tookRecv []) :=
  ⟨rfl, rfl, rfl, rfl, rfl, rfl, rfl, rfl, rfl, rfl, rfl⟩

theorem spent_tookSend (s : State) : Spent s (s.tookSend []) :=
  ⟨rfl, rfl, rfl, rfl, rfl, rfl, rfl, rfl, rfl, rfl, List.append_nil _⟩

theorem spent_rxClear (s : State) : Spent s s.rxClear := ⟨rfl, rfl, rfl, rfl, rfl, rfl, rfl, rfl, rfl, rfl, rfl⟩

/-- The nonce drawn (R122). -/
def nonceDrawn (s : State) : State := { s.tookNonce with ses := { s.ses with nd := s.nonceWord } }

theorem spent_nonceDrawn (s : State) : Spent s (nonceDrawn s) := ⟨rfl, rfl, rfl, rfl, rfl, rfl, rfl, rfl, rfl, rfl, rfl⟩

/-- A place where a frame is received (R121, R124, R126). -/
def Receiving (s : State) : Prop :=
  (s.seq.sess = .awaitM1 ∨ s.seq.sess = .awaitM3 ∨ s.seq.sess = .awaitImageSize) ∧ s.seq.phase = .start

/-- Where a step at a place at rest leads. -/
inductive RestMove (s : State) : State → Prop
  | raised {u : State} (hu : Spent s u) (c : Cause) : RestMove s (u.raise c)
  | checkSkipped (hs : s.seq.sess = .init) : RestMove s (s.goSess .checkSent)
  | checkSent (hs : s.seq.sess = .init) (b : Bytes) : RestMove s
      (State.goSess .checkSent { s.tookSend [b] with run := { s.run with checkSent := true } })
  | received (hs : Receiving s) (r rest : Bytes) : RestMove s
      { s.tookRecv rest with ses := { s.ses with rxBuf := s.ses.rxBuf ++ r } }
  | framed (hs : Receiving s) (len : Nat) : RestMove s { s with ses := { s.ses with rx := .body len, rxBuf := [] } }
  | opening (hs : s.seq.sess = .awaitM1 ∨ s.seq.sess = .awaitM3) (ct : Bytes) (n : Nat) (b : Bytes) :
      RestMove s ((s.rxClear.beginRsa .decrypt .devicePrivate ct n).loadBlock b)
  | sized (hs : s.seq.sess = .awaitImageSize) {size : Word} (h : size.toNat ≤ s.cfg.stageCap) : RestMove s
      (State.goPhase .ack { s.rxClear with ses := { s.rxClear.ses with imgSize := size } })
  | challenged (hs : s.seq.sess = .awaitM1) (ng : Word) : RestMove s
      (State.goPhase .nonce { s with ses := { s.ses with ng := ng } })
  | sealing (hs : s.seq.sess = .awaitM1) {key : KeySlot} (hkey : key ≠ .devicePrivate) (p : Bytes) (n : Nat) :
      RestMove s ((nonceDrawn s).beginRsa .encrypt key p n).startFilling
  | sealedNothing (hs : s.seq.sess = .awaitM1) (key : KeySlot) (p : Bytes) (n : Nat) :
      RestMove s (((nonceDrawn s).beginRsa .encrypt key p n).rsaReturn [])
  | answered (hs : s.seq.sess = .awaitM1) (b : Bytes) : RestMove s ((s.tookSend [b]).goSess .challengeSent)
  | authenticated (hs : s.seq.sess = .awaitM3) (a : Bytes) : RestMove s
      (State.goSess .authenticated { s with ses := { s.ses with ok := true, attest := a } })
  | acked (hs : s.seq.sess = .awaitImageSize) (hp : s.seq.phase = .ack) (b : Bytes) :
      RestMove s ((s.tookSend [b]).goSess .receivingImage)
  | ended (hs : s.seq.sess = .imageComplete) (b : Bytes) : RestMove s ((s.tookSend [b]).goSess .sessionDone)
  | staged (hs : s.seq.sess = .receivingImage) (hp : s.seq.phase = .chunk) : RestMove s
      (State.goPhase .start
        { s.stageWrite s.ses.imgRcvd s.ses.held with
          ses := { s.ses with imgRcvd := s.ses.imgRcvd + s.ses.held.length, held := [] } })
  | chunk (hs : s.seq.sess = .receivingImage) (r rest : Bytes)
      (hr : s.ses.imgRcvd + r.length ≤ s.ses.imgSize.toNat) : RestMove s
      (State.goPhase .chunk { s.tookRecv rest with ses := { s.ses with held := r } })
  | imageDone (hs : s.seq.sess = .receivingImage) (hr : s.ses.imgSize.toNat ≤ s.ses.imgRcvd) :
      RestMove s (s.goSess .imageComplete)
  | toM1 (hs : s.seq.sess = .checkSent) : RestMove s (s.goSess .awaitM1)
  | toM3 (hs : s.seq.sess = .challengeSent) : RestMove s (s.goSess .awaitM3)
  | confirmed (hs : s.seq.sess = .authenticated) (hrole : s.ses.role = .confirming) : RestMove s (s.goSess .sessionDone)
  | toImage (hs : s.seq.sess = .authenticated) (hrole : s.ses.role = .updating) :
      RestMove s (s.goSess .awaitImageSize)
  | nextSession (hs : s.seq.sess = .sessionDone) (h : s.run.orgIdx + 1 < s.cfg.nOrgs) :
      RestMove s ((s.recordSuccess.goRun .runGC).startSession .confirming (s.run.orgIdx + 1))
  | lastSessionFailed (hs : s.seq.sess = .sessionDone) : RestMove s s.recordSuccess.failRun
  | validate (hs : s.seq.sess = .sessionDone) (h : s.cfg.nOrgs ≤ s.run.orgIdx + 1) (hgc : s.run.firstGcErr = none) :
      RestMove s
        { s.recordSuccess with seq := { s.seq with run := .valDecrypt, sess := .noSession, proc := .idle, phase := .start } }
  | failed (hs : s.seq.sess = .failed) (kept : Option ErrRec) :
      RestMove s (State.failRun { s with run := { s.run with firstGcErr := kept } })
  | nextAfterFailure (hs : s.seq.sess = .failed) (e : ErrRec) (h : s.run.orgIdx + 1 < s.cfg.nOrgs) : RestMove s
      ((State.goRun .runGC { s with run := { s.run with firstGcErr := some e } }).startSession .confirming
        (s.run.orgIdx + 1))
  | opensImage (hs : s.seq.sess = .noSession) (hrun : s.seq.run = .valDecrypt) (img : Bytes) (n : Nat) (b : Bytes) :
      RestMove s ((s.beginRsa .decrypt .devicePrivate img n).loadBlock b)
  | parsed (hs : s.seq.sess = .noSession) (hrun : s.seq.run = .valParse) (h : imgHdrLen ≤ s.run.decImg.length) :
      RestMove s (State.goRun .valHash { s with run := { s.run with hdr := some (parseHeader s.run.decImg) } })
  | hashes (hs : s.seq.sess = .noSession) (hrun : s.seq.run = .valHash) (m : Bytes) : RestMove s (s.hashBegin m false)
  | agreed (hs : s.seq.sess = .noSession) (hrun : s.seq.run = .valCompare) {h : ImageHeader}
      (hhdr : s.run.hdr = some h) (hdig : s.run.digest = h.hash)
      (hall : ∀ a ∈ s.run.attests, attestEq s.cfg.attestEnc s.run.digest a = true) : RestMove s (s.readyToInstall h)

/-! ### The messages -/

/-- A guarded Send leads to a raise, or on with the string sent. -/
theorem restMove_guarded_sendThen {s : State} {b : Bytes} {k : State → State} (hk : RestMove s (k (s.tookSend [b]))) :
    RestMove s (s.guarded (State.sendThen b k)) := by
  obtain ⟨-, h⟩ | ⟨-, h⟩ := s.guarded_cases (State.sendThen b k) <;> rw [h]
  · exact .raised (spent_refl s) _
  · obtain ⟨-, h⟩ | ⟨-, h⟩ | ⟨-, h⟩ := s.sendThen_cases b k <;> rw [h]
    · exact hk
    · exact .raised (spent_tookSend s) _
    · exact .raised (spent_tookSend s) _

theorem restMove_onFrame {s : State} {k : Bytes → State → State} (hs : Receiving s)
    (hk : RestMove s (k s.ses.rxBuf s.rxClear)) : RestMove s (s.onFrame k) := by
  obtain ⟨-, h⟩ | ⟨-, ⟨c, h⟩ | ⟨c, h⟩ | ⟨r, rest, h⟩ | ⟨len, h⟩⟩ := s.onFrame_cases k <;> rw [h]
  · exact hk
  · exact .raised (spent_refl s) _
  · exact .raised (spent_tookRecv s) _
  · exact .received hs r rest
  · exact .framed hs len

theorem restMove_openBody {s : State} (hs : s.seq.sess = .awaitM1 ∨ s.seq.sess = .awaitM3)
    (par : Bytes → Option Bytes) (bad : Cause) (b : Bytes) : RestMove s (s.rxClear.openBody par bad b) := by
  obtain ⟨-, h⟩ | ⟨ct, -, -, h⟩ | ⟨ct, -, -, h⟩ := s.rxClear.openBody_cases par bad b <;> rw [h]
  · exact .raised (spent_rxClear s) _
  · exact .raised (spent_rxClear s) _
  · obtain ⟨-, h⟩ | ⟨-, -, h⟩ | ⟨-, -, -, h⟩ := s.rxClear.decryptBegin_cases ct .devicePrivate <;> rw [h]
    · exact .raised (spent_rxClear s) _
    · exact .raised (spent_rxClear s) _
    · exact .opening hs ct _ _

theorem publicSlot_ne (r : Role) : publicSlot r ≠ .devicePrivate := by cases r <;> decide

theorem restMove_deviceChallenge {s t : State} (hs : s.seq.sess = .awaitM1) (h : exec .deviceChallenge s = .next t) :
    RestMove s t := by
  cases h
  obtain ⟨-, h⟩ | ⟨-, h⟩ := (nonceDrawn s).guarded_cases (State.encryptBegin
    (s.codec.serDeviceChallenge ⟨s.cfg.deviceId, s.ses.ng, s.nonceWord⟩) (publicSlot s.ses.role))
  · exact h ▸ .raised (spent_nonceDrawn s) _
  · refine h ▸ ?_
    obtain ⟨hkey, -⟩ | ⟨-, -, h⟩ | ⟨hkey, -, h⟩ := (nonceDrawn s).encryptBegin_cases
      (s.codec.serDeviceChallenge ⟨s.cfg.deviceId, s.ses.ng, s.nonceWord⟩) (publicSlot s.ses.role)
    · exact absurd hkey (publicSlot_ne _)
    · exact h ▸ .sealedNothing hs _ _ _
    · exact h ▸ .sealing hs hkey _ _

theorem restMove_updateCheck {s t : State} (hs : s.seq.sess = .init) (h : exec .updateCheck s = .next t) :
    RestMove s t := by
  cases h
  split
  · exact .checkSkipped hs
  · exact restMove_guarded_sendThen (.checkSent hs _)

theorem restMove_orgChallenge {s t : State} (hs : s.seq.sess = .awaitM1) (h : exec .orgChallenge s = .next t) :
    RestMove s t := by
  cases h
  split
  · exact .raised (spent_refl s) _
  · exact .challenged hs _

theorem restMove_orgResponse {s t : State} (hs : s.seq.sess = .awaitM3) (h : exec .orgResponse s = .next t) :
    RestMove s t := by
  cases h
  split
  · exact .raised (spent_refl s) _
  · split
    · exact .raised (spent_refl s) _
    · exact .authenticated hs _

theorem restMove_updateImage {s t : State} (hs : s.seq.sess = .awaitImageSize) (hp : s.seq.phase = .start)
    (h : exec .updateImage s = .next t) : RestMove s t := by
  cases h
  refine restMove_onFrame ⟨.inr (.inr hs), hp⟩ ?_
  dsimp only
  split
  · exact .raised (spent_rxClear s) _
  · split <;> rename_i hsize
    · exact .raised (spent_rxClear s) _
    · exact .sized hs (Nat.not_lt.1 hsize)

/-- A chunk asked for within what remains keeps within the image's size (R127). -/
theorem restMove_recvImage {s : State} {n : Nat} (hs : s.seq.sess = .receivingImage)
    (hn : n ≤ s.ses.imgSize.toNat - s.ses.imgRcvd) (hlt : s.ses.imgRcvd < s.ses.imgSize.toNat) :
    RestMove s (s.guarded (State.recvThen n
      fun r t => State.goPhase .chunk { t with ses := { t.ses with held := r } })) := by
  obtain ⟨-, h⟩ | ⟨-, h⟩ := s.guarded_cases (State.recvThen n
    fun r t => State.goPhase .chunk { t with ses := { t.ses with held := r } }) <;> rw [h]
  · exact .raised (spent_refl s) _
  · obtain ⟨b, bs, -, h⟩ | ⟨-, h⟩ | ⟨-, h⟩ := s.recvThen_cases n
      (fun r t => State.goPhase .chunk { t with ses := { t.ses with held := r } }) <;> rw [h]
    · refine .chunk hs _ _ ?_
      have hlen : ((b :: bs).take n).length ≤ n := List.length_take_le ..
      omega
    · exact .raised (spent_tookRecv s) _
    · exact .raised (spent_tookRecv s) _

theorem restMove_imageData {s t : State} (hs : s.seq.sess = .receivingImage) (h : exec .imageData s = .next t) :
    RestMove s t := by
  change execImageData s = _ at h
  unfold execImageData at h
  split at h
  · unfold State.stageChunk at h
    split at h
    · cases h
      exact .staged hs ‹_›
    · cases h
  · cases h
    split <;> rename_i hlt
    · exact restMove_recvImage hs (min_le_right ..) hlt
    · exact .imageDone hs (Nat.not_lt.1 hlt)

theorem restMove_of_tag {s t : State} {g : BitVec 8} {i : Instr} (hg : sessionTag s.seq.sess s.seq.phase = some g)
    (hi : decodeMsg g = .ok i) (h : exec i s = .next t) : RestMove s t := by
  generalize hs : s.seq.sess = x at hg
  generalize hp : s.seq.phase = p at hg
  unfold sessionTag at hg
  split at hg <;> cases hg <;> cases hi
  · exact restMove_updateCheck hs h
  · cases h
    exact restMove_onFrame ⟨.inl hs, hp⟩ (restMove_openBody (.inl hs) _ _ _)
  · exact restMove_orgChallenge hs h
  · exact restMove_deviceChallenge hs h
  · cases h
    exact restMove_guarded_sendThen (.answered hs _)
  · cases h
    exact restMove_onFrame ⟨.inr (.inl hs), hp⟩ (restMove_openBody (.inr hs) _ _ _)
  · exact restMove_orgResponse hs h
  · exact restMove_updateImage hs hp h
  · cases h
    refine restMove_guarded_sendThen ?_
    rw [State.tookSend_seq, hs]
    exact .acked hs hp _
  · exact restMove_imageData hs h
  · cases h
    refine restMove_guarded_sendThen ?_
    rw [State.tookSend_seq, hs]
    exact .ended hs _

/-! ### The silent steps -/

theorem restMove_sessionDoneStep {s : State} (hs : s.seq.sess = .sessionDone) : RestMove s s.sessionDoneStep := by
  obtain ⟨hlt, h⟩ | ⟨e, -, -, h⟩ | ⟨hle, hgc, h⟩ := s.recordSuccess.nextOrg_cases <;>
    rw [State.sessionDoneStep, h]
  · exact .nextSession hs hlt
  · exact .lastSessionFailed hs
  · exact .validate hs hle hgc

/-- A kept error is there: the run does not go on to validation (R132). -/
theorem keepFirst_eq_some (kept : Option ErrRec) (e : ErrRec) : keepFirst kept e = some (kept.getD e) := by
  cases kept <;> rfl

theorem restMove_failedStep {s : State} (hs : s.seq.sess = .failed) : RestMove s s.failedStep := by
  obtain ⟨-, -, -, h⟩ | ⟨-, h⟩ := s.failedStep_cases <;> rw [h]
  · rw [keepFirst_eq_some]
    obtain ⟨hlt, h⟩ | ⟨e, -, -, h⟩ | ⟨-, hgc, -⟩ := State.nextOrg_cases
      { s with run := { s.run with firstGcErr := some (s.run.firstGcErr.getD s.err) } }
    · exact h ▸ .nextAfterFailure hs _ hlt
    · exact h ▸ .failed hs _
    · cases hgc
  · exact .failed hs s.run.firstGcErr

theorem restMove_authenticatedStep {s : State} (hs : s.seq.sess = .authenticated) : RestMove s s.authenticatedStep := by
  cases hrole : s.ses.role with
  | updating => rw [authenticatedStep_updating hrole]; exact .toImage hs hrole
  | confirming => rw [authenticatedStep_confirming hrole]; exact .confirmed hs hrole

theorem restMove_runSilentStep {s t : State} (hs : s.seq.sess = .noSession) (h : s.runSilentStep = .next t) :
    RestMove s t := by
  unfold State.runSilentStep at h
  split at h <;> rename_i hrun
  · unfold State.valDecryptStep at h
    split at h <;> cases h
    rename_i img _
    obtain ⟨-, h⟩ | ⟨-, -, h⟩ | ⟨-, -, -, h⟩ := s.decryptBegin_cases img .devicePrivate <;> rw [h]
    · exact .raised (spent_refl s) _
    · exact .raised (spent_refl s) _
    · exact .opensImage hs hrun img _ _
  · cases h
    unfold State.valParseStep
    split <;> rename_i hlen
    · exact .raised (spent_refl s) _
    · exact .parsed hs hrun (Nat.not_lt.1 hlen)
  · cases h
    exact .hashes hs hrun _
  · cases h
    obtain ⟨c, h⟩ | ⟨hd, hhdr, hdig, hmis, h⟩ := s.valCompareStep_cases <;> rw [h]
    · exact .raised (spent_refl s) _
    · exact .agreed hs hrun hhdr hdig ((firstMismatch_eq_none ..).1 hmis)
  all_goals cases h

theorem restMove_silentStep {s t : State} (hb : s.port.busy = true) (hf : s.rsa.filling = false)
    (h : s.silentStep = .next t) : RestMove s t := by
  simp only [State.silentStep, hb, hf, Bool.true_eq_false, Bool.false_eq_true, if_false] at h
  split at h <;> rename_i hs
  · cases h; exact .toM1 hs
  · cases h; exact .toM3 hs
  · cases h; exact restMove_authenticatedStep hs
  · cases h; exact restMove_sessionDoneStep hs
  · cases h; exact restMove_failedStep hs
  · exact restMove_runSilentStep hs h
  all_goals cases h

/-! ### The step -/

/-- Where a step leads when no bus access is asked for. -/
inductive Move (s : State) : State → Prop
  | reset (hr : s.env.resetIn = true) : Move s s.applyReset
  | port (hr : s.env.resetIn = false) (hb : s.port.busy = false) {t : State} (h : PortMove s t) : Move s t
  | bus (hs : Running s) {i : Instr} (hi : procInstr s.seq.proc = some i) {t : State} (h : BusMove s i t) : Move s t
  | fill (hs : Running s) (hp : s.seq.proc = .idle) (hf : s.rsa.filling = true) : Move s s.fillStep
  | rest (hs : Running s) (hrest : resting s = true) {t : State} (h : RestMove s t) : Move s t

theorem step_move {s t : State} (hq : s.env.busRequest = none) (h : step s = .next t) : Move s t := by
  obtain ⟨hr, he⟩ | ⟨hr, hb, -, he⟩ | ⟨l, rest, i, hr, hb, -, hi, he⟩ | ⟨l, rest, e, hr, hb, -, -, he⟩ |
    ⟨i, hs, hi, he⟩ | ⟨hs, hp, hf, he⟩ | ⟨g, i, hs, hp, hf, hg, hi, he⟩ | ⟨hs, hp, hf, -, he⟩ := step_result_cases hq <;>
    rw [he] at h
  · cases h; exact .reset hr
  · cases h; exact .port hr hb .rest
  · exact .port hr hb (portMove_of_decodeCmd hi h)
  · exact .port hr hb (portMove_of_gated .illegal h)
  · obtain ⟨d, hd⟩ := encode_procInstr hi
    exact .bus hs hi (busMove_of_exec hd h)
  · cases h; exact .fill hs hp hf
  · exact .rest hs ((resting_iff s).2 ⟨hp, hf⟩) (restMove_of_tag hg hi h)
  · exact .rest hs ((resting_iff s).2 ⟨hp, hf⟩) (restMove_silentStep (busy_of_running hs) hf h)

/-- A bus access that is asked for is one transaction, run where the machine stands (log 14). -/
theorem step_request_move {s t : State} {d : BitVec 10} (hr : s.env.resetIn = false) (hq : s.env.busRequest = some d)
    (h : step s = .next t) : ∃ i, BusMove s.dropRequest i t := by
  rw [step_request hr hq] at h
  cases hi : decode (.bus d) with
  | ok i =>
    rw [runCode_ok hi] at h
    exact ⟨i, busMove_of_exec ((Codes.codesDecodeAndEncodeAgree _ _).1 hi) h⟩
  | error e =>
    rw [runCode_error hi] at h
    cases h

end Sys2Proof.Proofs.Moves
end

section
/-! PROOF. The sequencing tuple (10_state section 3): who can have called an engine procedure, what a place at rest is,
and that every step leads from a placed state to a placed one. -/

namespace Sys2Proof.Proofs.Sequencing
open Sys2Proof Sys2Proof.Machine Sys2Proof.Safety
open Sys2Proof.Proofs.SilentSteps Sys2Proof.Proofs.Moves

/-! ### The callers of the engine procedures, and the places at rest -/

/-- A place from which Encrypt or Decrypt runs: M1's rule, M3's with Decrypt, validation step 1 with Decrypt, or a
command (R86, R87, R121, R124, R134). -/
def RsaCaller (s : State) : Prop :=
  if s.seq.sess.active then
    (s.seq.run = .runGU ∨ s.seq.run = .runGC) ∧ s.seq.phase = .engine ∧
      (s.seq.sess = .awaitM1 ∨ s.seq.sess = .awaitM3 ∧ s.rsa.op = .decrypt)
  else s.seq.run.active = false ∨ s.seq.run = .valDecrypt ∧ s.rsa.op = .decrypt

theorem RsaCaller.congr {s t : State} (h : RsaCaller s) (hop : t.rsa.op = s.rsa.op) (hrun : t.seq.run = s.seq.run)
    (hsess : t.seq.sess = s.seq.sess) (hphase : t.seq.phase = s.seq.phase) : RsaCaller t := by
  rwa [RsaCaller, hop, hrun, hsess, hphase]

/-- A place from which Hash runs: validation step 3 or a command (R102, R136). -/
def HashCaller (s : State) : Prop :=
  s.seq.sess.active = false ∧ (s.seq.run.active = false ∨ s.seq.run = .valHash)

/-- The places of a session rule with no engine procedure running. -/
def restPhase : SessState → Phase → Bool
  | .awaitM1, .start | .awaitM1, .opened | .awaitM1, .nonce | .awaitM1, .sealed | .awaitM3, .start | .awaitM3, .opened
  | .awaitImageSize, .start | .awaitImageSize, .ack | .receivingImage, .start | .receivingImage, .chunk
  | .init, .start | .checkSent, .start | .challengeSent, .start | .authenticated, .start | .imageComplete, .start
  | .sessionDone, .start | .failed, .start => true
  | _, _ => false

/-- The validation positions. -/
def validating : RunState → Bool
  | .valDecrypt | .valParse | .valHash | .valCompare => true
  | .runIdle | .runGU | .runGC | .runReady | .runFailed => false

/-- A place of the running command with no engine procedure running. -/
def RestPlace (s : State) : Prop :=
  if s.seq.sess.active then
    (s.seq.run = .runGU ∨ s.seq.run = .runGC) ∧ restPhase s.seq.sess s.seq.phase = true
  else validating s.seq.run = true

/-- What `Placed` says of a busy state. -/
def BusyPlace (s : State) : Prop :=
  if s.seq.sess.active then (s.seq.run = .runGU ∨ s.seq.run = .runGC) ∧ sessionPlaced s = true else runPlaced s = true

theorem sessionPlaced_iff (s : State) :
    sessionPlaced s = true ↔
      (resting s = true ∧ restPhase s.seq.sess s.seq.phase = true) ∨
      (rsaRunning s = true ∧ s.seq.phase = .engine ∧
        (s.seq.sess = .awaitM1 ∨ s.seq.sess = .awaitM3 ∧ s.rsa.op = .decrypt)) := by
  unfold sessionPlaced
  cases hs : s.seq.sess <;> cases hp : s.seq.phase <;> simp [restPhase]

theorem runPlaced_iff (s : State) :
    runPlaced s = true ↔
      (resting s = true ∧ validating s.seq.run = true) ∨
      (rsaRunning s = true ∧ (s.seq.run.active = false ∨ s.seq.run = .valDecrypt ∧ s.rsa.op = .decrypt)) ∨
      (hashRunning s = true ∧ (s.seq.run.active = false ∨ s.seq.run = .valHash)) := by
  unfold runPlaced
  cases hr : s.seq.run <;> simp [validating, RunState.active]
  cases hop : s.rsa.op <;> simp [rsaRunning, hop]

theorem busyPlace_iff (s : State) :
    BusyPlace s ↔ (resting s = true ∧ RestPlace s) ∨ (rsaRunning s = true ∧ RsaCaller s) ∨
      (hashRunning s = true ∧ HashCaller s) := by
  unfold BusyPlace RestPlace RsaCaller HashCaller
  cases hs : s.seq.sess.active
  · simpa using runPlaced_iff s
  · simp only [if_true, sessionPlaced_iff, false_and, and_false, or_false, Bool.true_eq_false]
    rw [and_or_left, and_left_comm (b := resting s = true), and_left_comm (b := rsaRunning s = true)]

/-- No position belongs to both engine procedures. -/
theorem inRsaBlock_and_inHash (p : Proc) : (inRsaBlock p && inHash p) = false := by cases p <;> rfl

/-! ### Placed states -/

/-- A command is being executed, PROTO_RUN where a run is active, and no bus access is asked for. -/
structure InCommand (s : State) : Prop where
  request : s.env.busRequest = none
  busy : s.port.busy = true
  cmd : s.seq.run.active = true → s.port.cmd = Instr.protoRun.word

theorem InCommand.of_eq {s u : State} (h : InCommand s) (hq : u.env.busRequest = s.env.busRequest)
    (hp : u.port = s.port) (hr : u.seq.run = s.seq.run) : InCommand u :=
  ⟨hq ▸ h.request, hp ▸ h.busy, by rw [hp, hr]; exact h.cmd⟩

theorem placed_of_busy {s : State} (hc : InCommand s) (h : BusyPlace s) : Placed s :=
  ⟨hc.request, hc.cmd, fun hb => (Bool.false_ne_true (hb.symm.trans hc.busy)).elim, fun _ => h⟩

theorem placed_of_idle {s : State} (hq : s.env.busRequest = none) (hb : s.port.busy = false)
    (hs : s.seq.sess = .noSession) (hr : s.seq.run.active = false) (hrest : resting s = true) : Placed s :=
  ⟨hq, fun ha => (Bool.false_ne_true (hr.symm.trans ha)).elim, fun _ => ⟨hs, hr, hrest⟩,
    fun ha => (Bool.false_ne_true (hb.symm.trans ha)).elim⟩

theorem inCommand_of_placed {s : State} (h : Placed s) (hs : Running s) : InCommand s :=
  ⟨h.1, busy_of_running hs, h.2.1⟩

section
variable {s : State} (h : Placed s)
include h

theorem request_of_placed : s.env.busRequest = none := h.1

theorem idle_of_placed (hb : s.port.busy = false) :
    s.seq.sess = .noSession ∧ s.seq.run.active = false ∧ s.seq.proc = .idle ∧ s.rsa.filling = false := by
  obtain ⟨-, -, hidle, -⟩ := h
  obtain ⟨hsess, hrun, hrest⟩ := hidle hb
  exact ⟨hsess, hrun, (resting_iff s).1 hrest⟩

theorem busyPlace_of_placed (hb : s.port.busy = true) : BusyPlace s := h.2.2.2 hb

theorem rsaCaller_of_inRsaBlock (hb : s.port.busy = true) (hp : inRsaBlock s.seq.proc = true) :
    s.rsa.filling = false ∧ RsaCaller s := by
  have hne : s.seq.proc ≠ .idle := fun he => by rw [he] at hp; cases hp
  have hsha : inHash s.seq.proc = false := by
    simpa [hp] using inRsaBlock_and_inHash s.seq.proc
  obtain ⟨hr, -⟩ | ⟨hr, hc⟩ | ⟨hr, -⟩ := (busyPlace_iff s).1 (busyPlace_of_placed h hb)
  · exact absurd ((resting_iff s).1 hr).1 hne
  · exact ⟨by simpa [rsaRunning, hp, hne] using hr, hc⟩
  · simp [hashRunning, hsha] at hr

theorem hashCaller_of_inHash (hb : s.port.busy = true) (hp : inHash s.seq.proc = true) :
    s.rsa.filling = false ∧ HashCaller s := by
  have hne : s.seq.proc ≠ .idle := fun he => by rw [he] at hp; cases hp
  have hrsa : inRsaBlock s.seq.proc = false := by
    simpa [hp] using inRsaBlock_and_inHash s.seq.proc
  obtain ⟨hr, -⟩ | ⟨hr, -⟩ | ⟨hr, hc⟩ := (busyPlace_iff s).1 (busyPlace_of_placed h hb)
  · exact absurd ((resting_iff s).1 hr).1 hne
  · simp [rsaRunning, hrsa, hne] at hr
  · exact ⟨by simpa [hashRunning, hp] using hr, hc⟩

theorem rsaCaller_of_filling (hb : s.port.busy = true) (hp : s.seq.proc = .idle) (hf : s.rsa.filling = true) :
    s.rsa.op = .encrypt ∧ RsaCaller s := by
  obtain ⟨hr, -⟩ | ⟨hr, hc⟩ | ⟨hr, -⟩ := (busyPlace_iff s).1 (busyPlace_of_placed h hb)
  · rw [filling_of_resting hr] at hf
    cases hf
  · exact ⟨by simpa [rsaRunning, hp, hf, inRsaBlock] using hr, hc⟩
  · simp [hashRunning, hp, inHash] at hr

theorem restPlace_of_resting (hb : s.port.busy = true) (hrest : resting s = true) : RestPlace s := by
  obtain ⟨hp, hf⟩ := (resting_iff s).1 hrest
  obtain ⟨-, hr⟩ | ⟨hr, -⟩ | ⟨hr, -⟩ := (busyPlace_iff s).1 (busyPlace_of_placed h hb)
  · exact hr
  · simp [rsaRunning, hp, hf, inRsaBlock] at hr
  · simp [hashRunning, hp, inHash] at hr

end

/-- A session runs in RunGU or RunGC (R132). -/
theorem run_of_session {s : State} (h : Placed s) (hb : s.port.busy = true) (hs : s.seq.sess.active = true) :
    s.seq.run = .runGU ∨ s.seq.run = .runGC := by
  have hp := busyPlace_of_placed h hb
  rw [BusyPlace, if_pos hs] at hp
  exact hp.1

/-! ### The operations that leave an engine procedure, and those that go on in it -/

theorem placed_complete {s : State} (hq : s.env.busRequest = none) (hr : s.seq.run.active = false) (st : ResStatus)
    (d : Bytes) : Placed (s.complete st d) :=
  placed_of_idle hq rfl rfl hr rfl

theorem placed_raise {s : State} (hc : InCommand s)
    (hs : s.seq.sess.active = true → s.seq.run = .runGU ∨ s.seq.run = .runGC) (c : Cause) : Placed (s.raise c) := by
  cases ha : s.seq.sess.active
  · cases hr : s.seq.run.active
    · rw [State.raise_in_command c ha hr]
      exact placed_complete hc.request hr _ _
    · rw [State.raise_in_validation c ha hr]
      exact placed_complete (s := { s with err := s.errRecOf c, seq := { s.seq with run := .runFailed } }) hc.request rfl
        _ _
  · rw [State.raise_in_session c ha]
    refine placed_of_busy (hc.of_eq rfl rfl rfl) ((busyPlace_iff _).2 (.inl ⟨rfl, ?_⟩))
    exact ⟨hs ha, rfl⟩

section
variable {s : State} (hc : InCommand s) (hcall : RsaCaller s)
include hc hcall

theorem placed_startFilling (hop : s.rsa.op = .encrypt) : Placed s.startFilling := by
  refine placed_of_busy (hc.of_eq rfl rfl rfl) ((busyPlace_iff _).2 (.inr (.inl ⟨?_, hcall⟩)))
  simp [rsaRunning, inRsaBlock, hop]

theorem placed_loadBlock (b : Bytes) : Placed (s.loadBlock b) := by
  refine placed_of_busy (hc.of_eq rfl rfl rfl) ((busyPlace_iff _).2 (.inr (.inl ⟨?_, ?_⟩)))
  · simp [rsaRunning, inRsaBlock]
  · exact hcall.congr (by simp) (by simp) (by simp) (by simp)

theorem placed_rsaReturn (hf : s.rsa.filling = false) (out : Bytes) : Placed (s.rsaReturn out) := by
  cases ha : s.seq.sess.active
  · rw [RsaCaller, ha] at hcall
    by_cases hv : s.seq.run = .valDecrypt
    · rw [State.rsaReturn_in_validation out ha hv]
      refine placed_of_busy ⟨hc.request, hc.busy, fun _ => hc.cmd (hv ▸ rfl)⟩
        ((busyPlace_iff _).2 (.inl ⟨(resting_iff _).2 ⟨rfl, hf⟩, ?_⟩))
      simp [RestPlace, ha, validating]
    · rw [State.rsaReturn_in_command out ha hv]
      exact placed_complete hc.request (hcall.resolve_right fun h => hv h.1) _ _
  · rw [State.rsaReturn_in_session out ha]
    rw [RsaCaller, if_pos ha] at hcall
    obtain ⟨hrun, -, hsess⟩ := hcall
    refine placed_of_busy (hc.of_eq rfl rfl rfl) ((busyPlace_iff _).2 (.inl ⟨(resting_iff _).2 ⟨rfl, hf⟩, ?_⟩))
    rw [RestPlace, if_pos ha]
    refine ⟨hrun, ?_⟩
    obtain hs | ⟨hs, hop⟩ := hsess
    · cases s.rsa.op <;> simp [hs, returnPhase, restPhase]
    · simp [hs, hop, returnPhase, restPhase]

end

/-- From position to position of RsaBlock. -/
theorem placed_in_rsaBlock {s t : State} (hc : InCommand t) (hcall : RsaCaller s) (hf : t.rsa.filling = false)
    (hop : t.rsa.op = s.rsa.op) (hrun : t.seq.run = s.seq.run) (hsess : t.seq.sess = s.seq.sess)
    (hphase : t.seq.phase = s.seq.phase) (hp : inRsaBlock t.seq.proc = true) : Placed t := by
  refine placed_of_busy hc ((busyPlace_iff t).2 (.inr (.inl ⟨?_, hcall.congr hop hrun hsess hphase⟩)))
  simp [rsaRunning, hp, hf]

/-- From position to position of Hash. -/
theorem placed_in_hash {s t : State} (hc : InCommand t) (hcall : HashCaller s) (hf : t.rsa.filling = false)
    (hrun : t.seq.run = s.seq.run) (hsess : t.seq.sess = s.seq.sess) (hp : inHash t.seq.proc = true) : Placed t := by
  refine placed_of_busy hc ((busyPlace_iff t).2 (.inr (.inr ⟨?_, ?_⟩)))
  · simp [hashRunning, hp, hf]
  · rwa [HashCaller, hrun, hsess]

/-- To a place of a session rule at rest. -/
theorem placed_in_session {t : State} (hc : InCommand t) (hrest : resting t = true)
    (hrun : t.seq.run = .runGU ∨ t.seq.run = .runGC) (ha : t.seq.sess.active = true)
    (hp : restPhase t.seq.sess t.seq.phase = true) : Placed t := by
  refine placed_of_busy hc ((busyPlace_iff t).2 (.inl ⟨hrest, ?_⟩))
  rw [RestPlace, if_pos ha]
  exact ⟨hrun, hp⟩

/-- To a validation position at rest. -/
theorem placed_in_validation {t : State} (hc : InCommand t) (hrest : resting t = true)
    (ha : t.seq.sess.active = false) (hv : validating t.seq.run = true) : Placed t := by
  refine placed_of_busy hc ((busyPlace_iff t).2 (.inl ⟨hrest, ?_⟩))
  simpa [RestPlace, ha] using hv

/-! ### Every step -/

theorem placed_applyReset {s : State} (hq : s.env.busRequest = none) : Placed s.applyReset :=
  placed_of_idle hq rfl rfl rfl rfl

theorem placed_portMove {s t : State} (h : Placed s) (hb : s.port.busy = false) (hm : PortMove s t) : Placed t := by
  obtain ⟨hsess, hrun, hproc, hf⟩ := idle_of_placed h hb
  have hq := request_of_placed h
  have hnone : s.seq.sess.active = false := by rw [hsess]; rfl
  have hc (w : Word) (d : Bytes) : InCommand (s.accept w d) :=
    ⟨hq, rfl, fun ha => (Bool.false_ne_true (hrun.symm.trans ha)).elim⟩
  have hrsa {u : State} (hu : u.seq.sess = s.seq.sess) (hr : u.seq.run = s.seq.run) : RsaCaller u := by
    simp [RsaCaller, hu, hr, hnone, hrun]
  cases hm with
  | rest => exact h
  | illegal => exact placed_of_idle hq hb hsess hrun ((resting_iff _).2 ⟨hproc, hf⟩)
  | raised w d c => exact placed_raise (hc w d) (fun ha => (Bool.false_ne_true (hnone.symm.trans ha)).elim) c
  | encryptNothing w d p n =>
    refine placed_rsaReturn ?_ ?_ rfl []
    exacts [(hc w d).of_eq rfl rfl rfl, hrsa rfl rfl]
  | encrypt w d p n =>
    refine placed_startFilling ?_ ?_ rfl
    exacts [(hc w d).of_eq rfl rfl rfl, hrsa rfl rfl]
  | decrypt w d c n b =>
    refine placed_loadBlock ?_ ?_ b
    exacts [(hc w d).of_eq rfl rfl rfl, hrsa rfl rfl]
  | shaReset d => exact placed_in_hash ((hc _ d).of_eq rfl rfl rfl) ⟨hnone, .inl hrun⟩ hf rfl rfl rfl
  | hash w d m hex => exact placed_in_hash ((hc w d).of_eq rfl rfl rfl) ⟨hnone, .inl hrun⟩ hf rfl rfl rfl
  | run d => exact placed_in_session ⟨hq, rfl, fun _ => rfl⟩ ((resting_iff _).2 ⟨rfl, hf⟩) (.inl rfl) rfl rfl

/-- The transactions of RsaBlock (R83). -/
def rsaRow : Instr → Bool
  | .rsaWrData _ | .rsaWrKeysel | .rsaWrStart | .rsaRdStatus | .rsaRdData _ => true
  | _ => false

/-- The transactions of Hash (R102). -/
def shaRow : Instr → Bool
  | .sha3WrReset | .sha3WrFifo | .sha3WrStart | .sha3RdReady | .sha3RdDigest => true
  | _ => false

theorem inRsaBlock_of_procInstr {p : Proc} {i : Instr} (h : procInstr p = some i) : inRsaBlock p = rsaRow i := by
  cases p <;> cases h <;> rfl

theorem inHash_of_procInstr {p : Proc} {i : Instr} (h : procInstr p = some i) : inHash p = shaRow i := by
  cases p <;> cases h <;> rfl

theorem placed_busMove {s t : State} {i : Instr} (h : Placed s) (hs : Running s) (hi : procInstr s.seq.proc = some i)
    (hm : BusMove s i t) : Placed t := by
  have hc := inCommand_of_placed h hs
  have hb := busy_of_running hs
  have hrsa (hp : rsaRow i = true) := rsaCaller_of_inRsaBlock h hb ((inRsaBlock_of_procInstr hi).trans hp)
  have hsha (hp : shaRow i = true) := hashCaller_of_inHash h hb ((inHash_of_procInstr hi).trans hp)
  have hsess := run_of_session h hb
  cases hm with
  | wrData k hp =>
    obtain ⟨hf, hcall⟩ := hrsa rfl
    exact placed_in_rsaBlock (hc.of_eq rfl rfl rfl) hcall hf rfl rfl rfl rfl hp
  | wrKeysel | wrStart | rsaDone | rsaAgain | rdData =>
    obtain ⟨hf, hcall⟩ := hrsa rfl
    exact placed_in_rsaBlock (hc.of_eq rfl rfl rfl) hcall hf rfl rfl rfl rfl rfl
  | rsaTimeout | badHeader | shaTimeout =>
    refine placed_raise ?_ ?_ _
    exacts [hc.of_eq rfl rfl rfl, hsess]
  | opDone k acc =>
    obtain ⟨hf, hcall⟩ := hrsa rfl
    refine placed_rsaReturn ?_ ?_ ?_ acc
    exacts [hc.of_eq rfl rfl rfl, hcall, hf]
  | fillNext k acc hop =>
    obtain ⟨-, hcall⟩ := hrsa rfl
    refine placed_startFilling ?_ ?_ hop
    exacts [hc.of_eq rfl rfl rfl, hcall]
  | loadNext k acc b =>
    obtain ⟨-, hcall⟩ := hrsa rfl
    refine placed_loadBlock ?_ ?_ b
    exacts [hc.of_eq rfl rfl rfl, hcall]
  | wrResetCommand hcmd v =>
    obtain ⟨-, -, hrun⟩ := hsha rfl
    refine placed_complete (hc.request) ?_ _ _
    refine hrun.resolve_right fun hv => ?_
    have hproto := hc.cmd (by rw [hv]; rfl)
    rw [hcmd] at hproto
    exact absurd hproto (by decide)
  | wrReset | wrFifo | wrFifoLast | wrShaStart | shaDone | shaAgain | rdDigest =>
    obtain ⟨hf, hcall⟩ := hsha rfl
    exact placed_in_hash (hc.of_eq rfl rfl rfl) hcall hf rfl rfl rfl
  | hashedImage hrun =>
    obtain ⟨hf, hnone, -⟩ := hsha rfl
    exact placed_in_validation ⟨hc.request, hc.busy, fun _ => hc.cmd (by rw [hrun]; rfl)⟩
      ((resting_iff _).2 ⟨rfl, hf⟩) hnone rfl
  | hashed hrun d =>
    obtain ⟨-, -, hidle⟩ := hsha rfl
    refine placed_complete hc.request ?_ _ _
    exact hidle.resolve_right hrun

theorem placed_fillStep {s : State} (h : Placed s) (hs : Running s) (hp : s.seq.proc = .idle)
    (hf : s.rsa.filling = true) : Placed s.fillStep := by
  have hc := inCommand_of_placed h hs
  obtain ⟨hop, hcall⟩ := rsaCaller_of_filling h (busy_of_running hs) hp hf
  obtain ⟨-, he⟩ | ⟨-, he⟩ := s.fillStep_cases <;> rw [he]
  · refine placed_of_busy (hc.of_eq rfl rfl rfl) ((busyPlace_iff _).2 (.inr (.inl ⟨?_, hcall⟩)))
    simp [rsaRunning, inRsaBlock, hp, hf, hop]
  · refine placed_loadBlock ?_ ?_ _
    exacts [hc.of_eq rfl rfl rfl, hcall]

theorem placed_goSess {s : State} (hc : InCommand s) (hrest : resting s = true)
    (hrun : s.seq.run = .runGU ∨ s.seq.run = .runGC) {x : SessState} (ha : x.active = true)
    (hx : restPhase x .start = true) : Placed (s.goSess x) :=
  placed_in_session (hc.of_eq rfl rfl rfl) hrest hrun ha hx

theorem placed_goPhase {s : State} (hc : InCommand s) (hrest : resting s = true)
    (hrun : s.seq.run = .runGU ∨ s.seq.run = .runGC) (ha : s.seq.sess.active = true) {p : Phase}
    (hp : restPhase s.seq.sess p = true) : Placed (s.goPhase p) :=
  placed_in_session (hc.of_eq rfl rfl rfl) hrest hrun ha hp

theorem placed_startSession {s : State} (hc : InCommand s) (hf : s.rsa.filling = false)
    (hrun : s.seq.run = .runGU ∨ s.seq.run = .runGC) (r : Role) (n : Nat) : Placed (s.startSession r n) :=
  placed_in_session (hc.of_eq rfl rfl rfl) ((resting_iff _).2 ⟨rfl, hf⟩) hrun rfl rfl

theorem placed_failRun {s : State} (hq : s.env.busRequest = none) : Placed s.failRun := by
  refine placed_complete ?_ ?_ _ _
  exacts [hq, rfl]

theorem placed_restMove {s t : State} (h : Placed s) (hs : Running s) (hrest : resting s = true)
    (hm : RestMove s t) : Placed t := by
  have hc := inCommand_of_placed h hs
  have hplace := restPlace_of_resting h (busy_of_running hs) hrest
  have hrun {x : SessState} (hx : s.seq.sess = x) (ha : x.active = true) := run_of_session h (busy_of_running hs) (hx ▸ ha)
  have hcmd (hr : s.seq.run = .runGU ∨ s.seq.run = .runGC) : s.port.cmd = Instr.protoRun.word :=
    hc.cmd (by obtain hr | hr := hr <;> rw [hr] <;> rfl)
  have hf := filling_of_resting hrest
  cases hm with
  | raised hu c =>
    refine placed_raise (hc.of_eq hu.request hu.port (by rw [hu.seq])) ?_ c
    rw [hu.seq]
    exact run_of_session h (busy_of_running hs)
  | checkSkipped hx | checkSent hx | answered hx | authenticated hx | acked hx | ended hx | imageDone hx | toM1 hx
  | toM3 hx | confirmed hx | toImage hx =>
    refine placed_goSess ?_ ?_ ?_ rfl rfl
    exacts [hc.of_eq rfl rfl rfl, hrest, hrun hx rfl]
  | received hx | framed hx =>
    have ha : s.seq.sess.active = true := by obtain ⟨hx | hx | hx, -⟩ := hx <;> rw [hx] <;> rfl
    rw [RestPlace, if_pos ha] at hplace
    exact placed_in_session (hc.of_eq rfl rfl rfl) hrest hplace.1 ha hplace.2
  | sized hx | challenged hx | staged hx | chunk hx =>
    refine placed_goPhase ?_ ?_ ?_ ?_ ?_
    exacts [hc.of_eq rfl rfl rfl, hrest, hrun hx rfl, congrArg _ hx, congrArg (restPhase · _) hx]
  | opening hx ct n b =>
    have ha : s.seq.sess.active = true := by obtain hx | hx := hx <;> rw [hx] <;> rfl
    refine placed_loadBlock ?_ ?_ b
    · exact hc.of_eq rfl rfl rfl
    · exact (if_pos ha).mpr ⟨hrun rfl ha, rfl, hx.imp_right fun hx => ⟨hx, rfl⟩⟩
  | sealing hx hkey p n =>
    refine placed_startFilling ?_ ?_ rfl
    · exact hc.of_eq rfl rfl rfl
    · exact (if_pos (congrArg _ hx)).mpr ⟨hrun hx rfl, rfl, .inl hx⟩
  | sealedNothing hx key p n =>
    refine placed_rsaReturn ?_ ?_ rfl []
    · exact hc.of_eq rfl rfl rfl
    · exact (if_pos (congrArg _ hx)).mpr ⟨hrun hx rfl, rfl, .inl hx⟩
  | nextSession hx | nextAfterFailure hx =>
    refine placed_startSession ?_ ?_ (.inr rfl) _ _
    exacts [⟨hc.request, hc.busy, fun _ => hcmd (hrun hx rfl)⟩, hf]
  | validate hx =>
    exact placed_in_validation ⟨hc.request, hc.busy, fun _ => hcmd (hrun hx rfl)⟩ ((resting_iff _).2 ⟨rfl, hf⟩) rfl rfl
  | lastSessionFailed | failed => exact placed_failRun hc.request
  | opensImage hx hv img n b =>
    refine placed_loadBlock ?_ ?_ b
    · exact hc.of_eq rfl rfl rfl
    · exact (if_neg (by simp [hx, SessState.active])).mpr (.inr ⟨hv, rfl⟩)
  | parsed hx hv =>
    exact placed_in_validation ⟨hc.request, hc.busy, fun _ => hc.cmd (by rw [hv]; rfl)⟩ hrest (congrArg _ hx) rfl
  | hashes hx hv =>
    exact placed_in_hash (hc.of_eq rfl rfl rfl) ⟨congrArg _ hx, .inr hv⟩ hf rfl rfl rfl
  | agreed =>
    refine placed_complete ?_ ?_ _ _
    exacts [hc.request, rfl]

theorem placed_move {s t : State} (h : Placed s) (hm : Move s t) : Placed t := by
  cases hm with
  | reset => exact placed_applyReset (request_of_placed h)
  | port _ hb hm => exact placed_portMove h hb hm
  | bus hs hi hm => exact placed_busMove h hs hi hm
  | fill hs hp hf => exact placed_fillStep h hs hp hf
  | rest hs hrest hm => exact placed_restMove h hs hrest hm

/-- Settles O51: each move of a placed state leads to a place of the rule it belongs to. -/
theorem sequencingInvariantKept : Obligations.SequencingInvariantKept :=
  fun _ _ h hstep => placed_move h (step_move (request_of_placed h) hstep)

end Sys2Proof.Proofs.Sequencing
end

section
/-! PROOF. What no step writes, removes or takes back (00_scope section 5, 10_state section 5): the parameters, the
staged bytes, the strings sent, and the two suspect bits. -/

namespace Sys2Proof.Proofs.Frames
open Sys2Proof Sys2Proof.Machine Sys2Proof.Safety
open Sys2Proof.Proofs.Moves

/-! ### The operations with a branch, field by field -/

/-- An RSA operation's return, one `if` per field that it can write. -/
theorem rsaReturn_eq (out : Bytes) (s : State) :
    s.rsaReturn out =
      { s with
        port := if s.seq.sess.active ∨ s.seq.run = .valDecrypt then s.port
          else { s.port with busy := false, resStatus := .ok, resData := out }
        seq := if s.seq.sess.active then { s.seq with proc := .idle, phase := returnPhase s.rsa.op }
          else if s.seq.run = .valDecrypt then { s.seq with run := .valParse, proc := .idle, phase := .start }
          else { s.seq with sess := .noSession, proc := .idle, phase := .start }
        rsa := if s.seq.sess.active ∨ s.seq.run = .valDecrypt then s.rsa else { s.rsa with filling := false }
        ses := if s.seq.sess.active then { s.ses with held := out } else s.ses
        run := if s.seq.sess.active then s.run
          else if s.seq.run = .valDecrypt then { s.run with decImg := out } else s.run } := by
  cases ha : s.seq.sess.active
  · by_cases hv : s.seq.run = .valDecrypt
    · rw [State.rsaReturn_in_validation out ha hv]; simp [hv]
    · rw [State.rsaReturn_in_command out ha hv]; simp [State.complete, hv]
  · rw [State.rsaReturn_in_session out ha]; simp

@[simp] theorem rsaReturn_cfg (out : Bytes) (s : State) : (s.rsaReturn out).cfg = s.cfg := by rw [rsaReturn_eq]
@[simp] theorem rsaReturn_book (out : Bytes) (s : State) : (s.rsaReturn out).book = s.book := by rw [rsaReturn_eq]
@[simp] theorem rsaReturn_sha (out : Bytes) (s : State) : (s.rsaReturn out).sha = s.sha := by rw [rsaReturn_eq]
@[simp] theorem rsaReturn_out (out : Bytes) (s : State) : (s.rsaReturn out).out = s.out := by rw [rsaReturn_eq]
@[simp] theorem rsaReturn_shaWin (out : Bytes) (s : State) : (s.rsaReturn out).shaWin = s.shaWin := by rw [rsaReturn_eq]
@[simp] theorem rsaReturn_stage (out : Bytes) (s : State) : (s.rsaReturn out).stage = s.stage := by rw [rsaReturn_eq]
@[simp] theorem rsaReturn_env (out : Bytes) (s : State) : (s.rsaReturn out).env = s.env := by rw [rsaReturn_eq]

/-- Encrypt and Decrypt return to a place at rest. -/
@[simp] theorem rsaReturn_proc (out : Bytes) (s : State) : (s.rsaReturn out).seq.proc = .idle := by
  rw [rsaReturn_eq]
  dsimp only
  split
  · rfl
  · split <;> rfl

@[simp] theorem setSuspect_cfg (c : CoreId) (s : State) : (s.setSuspect c).cfg = s.cfg := by cases c <;> rfl
@[simp] theorem setSuspect_seq (c : CoreId) (s : State) : (s.setSuspect c).seq = s.seq := by cases c <;> rfl
@[simp] theorem setSuspect_stage (c : CoreId) (s : State) : (s.setSuspect c).stage = s.stage := by cases c <;> rfl
@[simp] theorem setSuspect_rsa_book (s : State) :
    (s.setSuspect .rsa).book = { s.book with suspectRsa := true } := rfl
@[simp] theorem setSuspect_sha_book (s : State) :
    (s.setSuspect .sha3).book = { s.book with suspectSha := true } := rfl

@[simp] theorem fillStep_cfg (s : State) : s.fillStep.cfg = s.cfg := by
  obtain ⟨-, h⟩ | ⟨-, h⟩ := s.fillStep_cases <;> simp [h]
@[simp] theorem fillStep_book (s : State) : s.fillStep.book = s.book := by
  obtain ⟨-, h⟩ | ⟨-, h⟩ := s.fillStep_cases <;> simp [h]
@[simp] theorem fillStep_stage (s : State) : s.fillStep.stage = s.stage := by
  obtain ⟨-, h⟩ | ⟨-, h⟩ := s.fillStep_cases <;> simp [h]
@[simp] theorem fillStep_env (s : State) :
    s.fillStep.env = { s.env with filler := s.env.filler.tail, draws := s.env.draws + 1 } := by
  obtain ⟨-, h⟩ | ⟨-, h⟩ := s.fillStep_cases <;> simp [h]

/-! ### Parameters, requests and strings sent -/

/-- What every step keeps: the parameters, whether a bus access is asked for, and the strings sent so far. -/
structure Frame (s t : State) : Prop where
  cfg : t.cfg = s.cfg
  request : t.env.busRequest = s.env.busRequest
  sent : s.env.sent <+: t.env.sent

/-- Frames of a state that keeps the three as they stand. -/
theorem frame_of_eq {s t : State} (hc : t.cfg = s.cfg) (hq : t.env.busRequest = s.env.busRequest)
    (hs : t.env.sent = s.env.sent) : Frame s t := ⟨hc, hq, hs ▸ List.prefix_rfl⟩

theorem frame_portMove {s t : State} (h : PortMove s t) : Frame s t := by
  cases h with
  | raised | encryptNothing => exact frame_of_eq (by simp) (by simp) (by simp)
  | _ => exact frame_of_eq rfl rfl rfl

theorem frame_busMove {s t : State} {i : Instr} (h : BusMove s i t) : Frame s t := by
  cases h with
  | rsaTimeout | badHeader | shaTimeout =>
    exact frame_of_eq (by simp [rsaCounted, shaCounted, readOut]) (by simp [rsaCounted, shaCounted, readOut])
      (by simp [rsaCounted, shaCounted, readOut])
  | opDone => exact frame_of_eq (by simp [blockOut]) (by simp [blockOut]) (by simp [blockOut])
  | _ => exact frame_of_eq rfl rfl rfl

theorem frame_restMove {s t : State} (h : RestMove s t) : Frame s t := by
  cases h with
  | raised hu => exact frame_of_eq (by simp [hu.cfg]) (by simp [hu.request]) (by simp [hu.sent])
  | sealedNothing => exact frame_of_eq (by simp [nonceDrawn]) (by simp [nonceDrawn]) (by simp [nonceDrawn])
  | checkSent | answered | acked | ended => exact ⟨rfl, rfl, List.prefix_append _ _⟩
  | _ => exact frame_of_eq rfl rfl rfl

theorem frame_move {s t : State} (h : Move s t) : Frame s t := by
  cases h with
  | reset => exact frame_of_eq rfl rfl rfl
  | port _ _ h => exact frame_portMove h
  | bus _ _ h => exact frame_busMove h
  | fill => exact frame_of_eq (by simp) (by simp) (by simp)
  | rest _ _ h => exact frame_restMove h

/-! ### The staging store -/

theorem stage_portMove {s t : State} (h : PortMove s t) : t.stage = s.stage := by
  cases h with
  | raised | encryptNothing => simp
  | _ => rfl

theorem stage_busMove {s t : State} {i : Instr} (h : BusMove s i t) : t.stage = s.stage := by
  cases h with
  | rsaTimeout | badHeader | shaTimeout => simp [rsaCounted, shaCounted, readOut]
  | opDone => simp [blockOut]
  | _ => rfl

theorem stage_restMove {s t : State} (h : RestMove s t) :
    t.stage = s.stage ∨
    (s.seq.sess = .receivingImage ∧ s.seq.phase = .chunk ∧
      t.stage = Memory.storeBytes s.stage s.ses.imgRcvd s.ses.held) := by
  cases h with
  | staged hs hp => exact .inr ⟨hs, hp, rfl⟩
  | raised hu => exact .inl (by simp [hu.stage])
  | sealedNothing => exact .inl (by simp [nonceDrawn])
  | _ => exact .inl rfl

theorem stage_move {s t : State} (h : Move s t) :
    t.stage = s.stage ∨
    (s.seq.sess = .receivingImage ∧ s.seq.phase = .chunk ∧
      t.stage = Memory.storeBytes s.stage s.ses.imgRcvd s.ses.held) := by
  cases h with
  | reset => exact .inl rfl
  | port _ _ h => exact .inl (stage_portMove h)
  | bus _ _ h => exact .inl (stage_busMove h)
  | fill => exact .inl (by simp)
  | rest _ _ h => exact stage_restMove h

/-- Settles O58: no move writes a parameter or takes back what was sent, and one move alone writes the store, where a
write unwrites nothing. -/
theorem parametersAndStagedBytesStay : Obligations.ParametersAndStagedBytesStay := by
  have kept {s t : State} (hframe : Frame s t)
      (hstage : t.stage = s.stage ∨ s.seq.sess = .receivingImage ∧ s.seq.phase = .chunk ∧
        t.stage = Memory.storeBytes s.stage s.ses.imgRcvd s.ses.held) :
      t.cfg = s.cfg ∧ (∀ a, (s.stageByte a).isSome → (t.stageByte a).isSome) ∧
        (¬(s.seq.sess = .receivingImage ∧ s.seq.phase = .chunk) → t.stage = s.stage) ∧ s.env.sent <+: t.env.sent := by
    refine ⟨hframe.cfg, fun a ha => ?_, fun hn => hstage.resolve_right fun h => hn ⟨h.1, h.2.1⟩, hframe.sent⟩
    obtain he | ⟨-, -, he⟩ := hstage
    · rwa [State.stageByte, he]
    · rw [State.stageByte, he]
      exact Memory.load_storeBytes_isSome _ _ _ _ ha
  intro s t hstep
  cases hq : s.env.busRequest with
  | none =>
    have hmove := step_move hq hstep
    exact kept (frame_move hmove) (stage_move hmove)
  | some d =>
    cases hr : s.env.resetIn with
    | true =>
      rw [step_reset hr] at hstep
      cases hstep
      exact kept (frame_of_eq rfl rfl rfl) (.inl rfl)
    | false =>
      obtain ⟨i, hmove⟩ := step_request_move hr hq hstep
      obtain ⟨hcfg, -, hsent⟩ := frame_busMove hmove
      have hstage := stage_busMove hmove
      refine ⟨hcfg, fun a ha => ?_, fun _ => hstage, hsent⟩
      rwa [State.stageByte, hstage]

/-! ### The suspect bits (R25) -/

/-- What a step out of reset can do to the suspect bits: nothing, or set one at its core's HardwareTimeout. -/
structure SuspectFrame (s t : State) : Prop where
  rsa : t.book.suspectRsa = s.book.suspectRsa ∨
    t.book.suspectRsa = true ∧ t.err.cause = some (.hardwareTimeout .rsa)
  sha : t.book.suspectSha = s.book.suspectSha ∨
    t.book.suspectSha = true ∧ t.err.cause = some (.hardwareTimeout .sha3)

theorem suspectFrame_of_eq {s t : State} (h : t.book = s.book) : SuspectFrame s t := ⟨.inl (by rw [h]), .inl (by rw [h])⟩

theorem suspectFrame_portMove {s t : State} (h : PortMove s t) : SuspectFrame s t := by
  cases h with
  | raised | encryptNothing => exact suspectFrame_of_eq (by simp)
  | _ => exact suspectFrame_of_eq rfl

theorem suspectFrame_busMove {s t : State} {i : Instr} (h : BusMove s i t) : SuspectFrame s t := by
  cases h with
  | rsaTimeout => exact ⟨.inr (by simp [State.errRecOf]), .inl (by simp [rsaCounted])⟩
  | shaTimeout => exact ⟨.inl (by simp [shaCounted]), .inr (by simp [State.errRecOf])⟩
  | badHeader => exact suspectFrame_of_eq (by simp [readOut])
  | opDone => exact suspectFrame_of_eq (by simp [blockOut])
  | wrResetCommand | wrReset | wrFifo | wrFifoLast => exact ⟨.inl rfl, .inl rfl⟩
  | _ => exact suspectFrame_of_eq rfl

theorem suspectFrame_restMove {s t : State} (h : RestMove s t) : SuspectFrame s t := by
  cases h with
  | raised hu => exact suspectFrame_of_eq (by simp [hu.book])
  | sealedNothing => exact suspectFrame_of_eq (by simp [nonceDrawn])
  | _ => exact suspectFrame_of_eq rfl

theorem suspectFrame_step {s t : State} (hr : s.env.resetIn = false) (h : step s = .next t) : SuspectFrame s t := by
  cases hq : s.env.busRequest with
  | none =>
    cases step_move hq h with
    | reset hr' => exact (Bool.false_ne_true (hr.symm.trans hr')).elim
    | port _ _ h => exact suspectFrame_portMove h
    | bus _ _ h => exact suspectFrame_busMove h
    | fill => exact suspectFrame_of_eq (by simp)
    | rest _ _ h => exact suspectFrame_restMove h
  | some d =>
    obtain ⟨i, hmove⟩ := step_request_move hr hq h
    obtain ⟨hrsa, hsha⟩ := suspectFrame_busMove hmove
    exact ⟨hrsa, hsha⟩

end Sys2Proof.Proofs.Frames
end

section
/-! PROOF. The engines' invariants (60_exceptions R158, 40_rsa R82, 41_sha3 R102, 70_reset R168): the key discipline, the
poll bound and the order of a hash, each kept by every move. -/

namespace Sys2Proof.Proofs.Engines
open Sys2Proof Sys2Proof.Machine Sys2Proof.Safety
open Sys2Proof.Proofs.SilentSteps Sys2Proof.Proofs.Moves Sys2Proof.Proofs.Frames Sys2Proof.Proofs.Sequencing
open Sys2Proof.Proofs.HashMessage

/-! ### Where a move leads in the engine procedures -/

theorem rsaReturn_op_key (out : Bytes) (s : State) :
    (s.rsaReturn out).rsa.op = s.rsa.op ∧ (s.rsaReturn out).rsa.key = s.rsa.key := by
  rw [rsaReturn_eq]
  dsimp only
  split <;> exact ⟨rfl, rfl⟩

theorem rsaReturn_filling (out : Bytes) {s : State} (h : s.rsa.filling = false) :
    (s.rsaReturn out).rsa.filling = false := by
  rw [rsaReturn_eq]
  dsimp only
  split
  · exact h
  · rfl

/-- A filler draw goes on drawing, or loads the block. -/
theorem fillStep_proc {s : State} (hp : s.seq.proc = .idle) :
    s.fillStep.seq.proc = .idle ∨ s.fillStep.seq.proc = .rsaWrData 0 := by
  obtain ⟨-, h⟩ | ⟨-, h⟩ := s.fillStep_cases
  · exact .inl (by rw [h]; exact hp)
  · exact .inr (by rw [h]; simp)

/-- From a place at rest a step stays at rest, loads an RSA block, or begins a hash. -/
theorem restMove_proc {s t : State} (hp : s.seq.proc = .idle) (h : RestMove s t) :
    t.seq.proc = .idle ∨ t.seq.proc = .rsaWrData 0 ∨ ∃ m, t = s.hashBegin m false := by
  cases h with
  | raised hu => exact .inl (by simp)
  | sealedNothing => exact .inl (by simp)
  | opening | opensImage => exact .inr (.inl (by simp))
  | hashes _ _ m => exact .inr (.inr ⟨m, rfl⟩)
  | sealing | nextSession | lastSessionFailed | validate | failed | nextAfterFailure | agreed => exact .inl rfl
  | _ => exact .inl hp

/-! ### Key discipline (R158) -/

/-- The operation and the slot that it may use. -/
def SlotFits (e : RsaEngine) : Prop :=
  (e.op = .encrypt ∧ e.key ≠ .devicePrivate) ∨ (e.op = .decrypt ∧ e.key = .devicePrivate)

theorem SlotFits.congr {e e' : RsaEngine} (h : SlotFits e) (hop : e'.op = e.op) (hkey : e'.key = e.key) :
    SlotFits e' := by
  rwa [SlotFits, hop, hkey]

theorem keyFits_of_fits {t : State} (hq : t.env.busRequest = none) (h : SlotFits t.rsa) : KeyFits t := ⟨hq, fun _ => h⟩

theorem keyFits_of_rest {t : State} (hq : t.env.busRequest = none) (hp : inRsaBlock t.seq.proc = false)
    (hf : t.rsa.filling = false) : KeyFits t := by
  refine ⟨hq, ?_⟩
  rintro (h | h)
  · exact (Bool.false_ne_true (hp.symm.trans h)).elim
  · exact (Bool.false_ne_true (hf.symm.trans h)).elim

/-- A move outside RsaBlock that leaves the engine's registers as they are. -/
theorem keyFits_of_same {s t : State} (h : KeyFits s) (hq : t.env.busRequest = s.env.busRequest) (hr : t.rsa = s.rsa)
    (hp : inRsaBlock t.seq.proc = true → inRsaBlock s.seq.proc = true) : KeyFits t := by
  obtain ⟨hnone, hfits⟩ := h
  refine ⟨hq.trans hnone, fun ht => ?_⟩
  rw [hr] at ht ⊢
  exact hfits (ht.imp_left hp)

theorem keyFits_portMove {s t : State} (h : KeyFits s) (hm : PortMove s t) : KeyFits t := by
  have hq : t.env.busRequest = none := (frame_portMove hm).request.trans h.1
  cases hm with
  | rest | illegal => exact h
  | raised => exact keyFits_of_rest hq (by simp [inRsaBlock]) (by simp)
  | encryptNothing => exact keyFits_of_rest hq (by simp [inRsaBlock]) (rsaReturn_filling [] rfl)
  | encrypt w d p n hkey => exact keyFits_of_fits hq (.inl ⟨rfl, hkey⟩)
  | decrypt => exact keyFits_of_fits hq (.inr (by simp))
  | shaReset | hash | run => exact keyFits_of_same h rfl rfl (by simp [inRsaBlock, State.startRun])

theorem keyFits_busMove {s t : State} {i : Instr} (h : KeyFits s) (hi : procInstr s.seq.proc = some i)
    (hm : BusMove s i t) : KeyFits t := by
  have hq : t.env.busRequest = none := (frame_busMove hm).request.trans h.1
  have hfits (hrow : rsaRow i = true) : SlotFits s.rsa := h.2 (.inl ((inRsaBlock_of_procInstr hi).trans hrow))
  cases hm with
  | wrData | wrKeysel | wrStart | rsaDone | rsaAgain | rdData | fillNext =>
    exact keyFits_of_fits hq ((hfits rfl).congr rfl rfl)
  | loadNext => exact keyFits_of_fits hq ((hfits rfl).congr (by simp [blockOut]) (by simp [blockOut]))
  | opDone k acc =>
    obtain ⟨hop, hkey⟩ := rsaReturn_op_key acc (blockOut s k acc)
    exact keyFits_of_fits hq ((hfits rfl).congr hop hkey)
  | rsaTimeout | badHeader | shaTimeout => exact keyFits_of_rest hq (by simp [inRsaBlock]) (by simp)
  | wrResetCommand | hashed => exact keyFits_of_rest hq rfl rfl
  | wrReset | wrFifo | wrFifoLast | wrShaStart | shaDone | shaAgain | rdDigest | hashedImage =>
    exact keyFits_of_same h rfl rfl (by simp [inRsaBlock])

theorem keyFits_fillStep {s : State} (h : KeyFits s) (hf : s.rsa.filling = true) : KeyFits s.fillStep := by
  obtain ⟨hq, hfits⟩ := h
  refine keyFits_of_fits (by simpa using hq) (SlotFits.congr (hfits (.inr hf)) ?_ ?_)
  all_goals obtain ⟨-, h⟩ | ⟨-, h⟩ := s.fillStep_cases <;> simp [h]

theorem keyFits_restMove {s t : State} (h : KeyFits s) (hm : RestMove s t) : KeyFits t := by
  have hq : t.env.busRequest = none := (frame_restMove hm).request.trans h.1
  cases hm with
  | raised => exact keyFits_of_rest hq (by simp [inRsaBlock]) (by simp)
  | sealedNothing => exact keyFits_of_rest hq (by simp [inRsaBlock]) (rsaReturn_filling [] rfl)
  | sealing _ hkey => exact keyFits_of_fits hq (.inl ⟨rfl, hkey⟩)
  | opening | opensImage => exact keyFits_of_fits hq (.inr (by simp))
  | lastSessionFailed | failed | agreed => exact keyFits_of_rest hq rfl rfl
  | nextSession | nextAfterFailure | validate | hashes => exact keyFits_of_same h rfl rfl (by simp [inRsaBlock])
  | _ => exact keyFits_of_same h rfl rfl id

theorem keyFits_move {s t : State} (h : KeyFits s) (hm : Move s t) : KeyFits t := by
  cases hm with
  | reset => exact keyFits_of_rest h.1 rfl rfl
  | port _ _ hm => exact keyFits_portMove h hm
  | bus _ hi hm => exact keyFits_busMove h hi hm
  | fill _ _ hf => exact keyFits_fillStep h hf
  | rest _ _ hm => exact keyFits_restMove h hm

/-! ### The poll bound (R82) -/

theorem pollBounded_of_no_poll {t : State} (hq : t.env.busRequest = none) (hr : ∀ a, t.seq.proc ≠ .rsaPoll a)
    (hs : ∀ a, t.seq.proc ≠ .shaPoll a) : PollBounded t :=
  ⟨hq, fun a h => (hr a h).elim, fun a h => (hs a h).elim⟩

theorem pollBounded_portMove {s t : State} (h : PollBounded s) (hm : PortMove s t) : PollBounded t := by
  have hq : t.env.busRequest = none := (frame_portMove hm).request.trans h.1
  cases hm with
  | rest | illegal => exact h
  | _ => exact pollBounded_of_no_poll hq (by simp [State.startRun]) (by simp [State.startRun])

theorem pollBounded_busMove {s t : State} {i : Instr} (hq : s.env.busRequest = none) (hm : BusMove s i t) :
    PollBounded t := by
  have hq : t.env.busRequest = none := (frame_busMove hm).request.trans hq
  cases hm with
  | wrData k hp hpoll =>
    refine pollBounded_of_no_poll hq hpoll ?_
    rintro a rfl
    cases hp
  | wrStart =>
    refine ⟨hq, ?_, by simp⟩
    rintro a ⟨⟩
    exact ⟨rfl, le_max_left ..⟩
  | rsaAgain hlt =>
    refine ⟨hq, ?_, by simp⟩
    rintro a ⟨⟩
    exact ⟨rfl, le_trans hlt (le_max_right ..)⟩
  | wrShaStart =>
    refine ⟨hq, by simp, ?_⟩
    rintro a ⟨⟩
    exact ⟨rfl, le_max_left ..⟩
  | shaAgain hlt =>
    refine ⟨hq, by simp, ?_⟩
    rintro a ⟨⟩
    exact ⟨rfl, le_trans hlt (le_max_right ..)⟩
  | _ => exact pollBounded_of_no_poll hq (by simp) (by simp)

theorem pollBounded_move {s t : State} (h : PollBounded s) (hm : Move s t) : PollBounded t := by
  have hq : t.env.busRequest = none := (frame_move hm).request.trans h.1
  cases hm with
  | reset => exact pollBounded_of_no_poll hq nofun nofun
  | port _ _ hm => exact pollBounded_portMove h hm
  | bus _ _ hm => exact pollBounded_busMove h.1 hm
  | fill _ hp =>
    obtain hp | hp := fillStep_proc hp <;> exact pollBounded_of_no_poll hq (by simp [hp]) (by simp [hp])
  | rest _ hrest hm =>
    obtain hp | hp | ⟨m, rfl⟩ := restMove_proc ((resting_iff s).1 hrest).1 hm
    · exact pollBounded_of_no_poll hq (by simp [hp]) (by simp [hp])
    · exact pollBounded_of_no_poll hq (by simp [hp]) (by simp [hp])
    · exact pollBounded_of_no_poll hq (by simp) (by simp)

/-- Settles O52: a slot is chosen where its operation begins, and a poll goes on only below its bound. -/
theorem keyDisciplineAndPollBoundKept : Obligations.KeyDisciplineAndPollBoundKept :=
  fun _ _ hstep => ⟨fun h => keyFits_move h (step_move h.1 hstep), fun h => pollBounded_move h (step_move h.1 hstep)⟩

/-! ### The order of a hash (R102, R168) -/

theorem hashOrdered_of_not_inHash {t : State} (hq : t.env.busRequest = none) (hp : inHash t.seq.proc = false) :
    HashOrdered t := by
  refine ⟨hq, fun h => ?_, fun j h => ?_, fun h => ?_, fun a h => ?_, fun k h => ?_⟩
  all_goals
    rw [h] at hp
    cases hp

/-- A hash begins with the padded message whole and nothing of it streamed. -/
theorem hashOrdered_hashBegin {s : State} (hq : s.env.busRequest = none) (m : Bytes) (hex : Bool) :
    HashOrdered (s.hashBegin m hex) := by
  refine ⟨hq, fun _ => .inr ⟨rfl, rfl, ?_, ?_⟩, by simp, by simp, by simp, by simp⟩ <;> simp

theorem hashOrdered_portMove {s t : State} (h : HashOrdered s) (hm : PortMove s t) : HashOrdered t := by
  have hq : t.env.busRequest = none := (frame_portMove hm).request.trans h.1
  cases hm with
  | rest | illegal => exact h
  | shaReset => exact ⟨hq, fun _ => .inl rfl, by simp, by simp, by simp, by simp⟩
  | hash w d m hex => exact hashOrdered_hashBegin (s := s.accept w d) hq m hex
  | _ => exact hashOrdered_of_not_inHash hq (by simp [inHash, State.startRun])

/-- One more FIFO word is one more word of the message (R104). -/
theorem words_take_succ {m : Bytes} {j : Nat} (h : j < m.length / 4) :
    (words m).take j ++ [wordAt m j] = (words m).take (j + 1) := by
  have hlen : j < (words m).length := by simpa [words] using h
  rw [List.take_add_one, List.getElem?_eq_getElem hlen]
  simp [words]

theorem hashOrdered_wrReset {s : State} (h : HashOrdered s) (hp : s.seq.proc = .shaWrReset)
    (hcmd : s.port.cmd ≠ Instr.sha3Reset.word) (v : Word) :
    HashOrdered (((s.winShaReset v).setDirty false).goProc (.shaWrFifo s.sha.j)) := by
  obtain ⟨hq, hreset, -⟩ := h
  obtain ⟨hj, hdig, hpos, hmod⟩ := (hreset hp).resolve_left hcmd
  refine ⟨hq, by simp, ?_, by simp, by simp, by simp⟩
  rintro j ⟨⟩
  refine ⟨rfl, ?_, hdig, rfl, ⟨hpos, hmod, ?_⟩, fun _ => rfl⟩
  · rw [hj]
    change 0 < s.sha.msg.length / 4
    omega
  · rw [hj]
    rfl

theorem streamed_fifoWritten {s : State} (h : Streamed s.sha.j s) (hj : s.sha.j < s.sha.msg.length / 4) :
    Streamed (s.sha.j + 1) (fifoWritten s) := by
  obtain ⟨hpos, hmod, hfifo⟩ := h
  refine ⟨hpos, hmod, ?_⟩
  change s.shaWin.fifo ++ [wordAt s.sha.msg s.sha.j] = (words s.sha.msg).take (s.sha.j + 1)
  rw [hfifo, words_take_succ hj]

theorem hashOrdered_wrFifo {s : State} {j : Nat} (h : HashOrdered s) (hp : s.seq.proc = .shaWrFifo j) :
    (s.sha.j + 1 < s.sha.msg.length / 4 → HashOrdered ((fifoWritten s).goProc (.shaWrFifo (s.sha.j + 1)))) ∧
    (s.sha.msg.length / 4 ≤ s.sha.j + 1 → HashOrdered ((fifoWritten s).goProc .shaWrStart)) := by
  obtain ⟨hq, -, hfifo, -⟩ := h
  obtain ⟨rfl, hlt, hdig, hptr, hstr, -⟩ := hfifo j hp
  have hnext := streamed_fifoWritten hstr hlt
  constructor
  · intro hj
    refine ⟨hq, by simp, ?_, by simp, by simp, by simp⟩
    rintro _ ⟨⟩
    exact ⟨rfl, hj, hdig, hptr, hnext, fun h => (Nat.succ_ne_zero _ h).elim⟩
  · intro hj
    have hlast : s.sha.j + 1 = s.sha.msg.length / 4 := by omega
    refine ⟨hq, by simp, by simp, ?_, by simp, by simp⟩
    exact fun _ => ⟨hdig, hptr, hlast ▸ hnext⟩

theorem hashOrdered_wrShaStart {s : State} (h : HashOrdered s) (hp : s.seq.proc = .shaWrStart) (v : Word) :
    HashOrdered (s.winShaStart v).startShaPoll := by
  obtain ⟨hq, -, -, hstart, -⟩ := h
  exact ⟨hq, by simp, by simp, by simp, fun _ _ => hstart hp, by simp⟩

theorem hashOrdered_shaDone {s : State} {a : Nat} (h : HashOrdered s) (hp : s.seq.proc = .shaPoll a) :
    HashOrdered ((shaCounted s).goProc (.shaRdDigest 0)) := by
  obtain ⟨hq, -, -, -, hpoll, -⟩ := h
  obtain ⟨hdig, hptr, -⟩ := hpoll a hp
  refine ⟨hq, by simp, by simp, by simp, by simp, ?_⟩
  rintro _ ⟨⟩
  exact ⟨congrArg List.length hdig, hptr⟩

theorem hashOrdered_shaAgain {s : State} {a : Nat} (h : HashOrdered s) (hp : s.seq.proc = .shaPoll a) (b : Nat) :
    HashOrdered ((shaCounted s).goProc (.shaPoll b)) := by
  obtain ⟨hq, -, -, -, hpoll, -⟩ := h
  exact ⟨hq, by simp, by simp, by simp, fun _ _ => hpoll a hp, by simp⟩

theorem hashOrdered_rdDigest {s : State} {k k' : Fin 16} (h : HashOrdered s) (hp : s.seq.proc = .shaRdDigest k)
    (hk : k'.val = (s.sha.dig.length + 4) / 4) : HashOrdered ((digestRead s).goProc (.shaRdDigest k')) := by
  obtain ⟨hq, -, -, -, -, hread⟩ := h
  obtain ⟨hlen, hptr⟩ := hread k hp
  refine ⟨hq, by simp, by simp, by simp, by simp, ?_⟩
  rintro _ ⟨⟩
  have hdig : (digestRead s).sha.dig.length = s.sha.dig.length + 4 := by simp [digestRead, beBytes]
  refine ⟨?_, ?_⟩
  · rw [State.goProc_sha, hdig]
    omega
  · change s.shaWin.ptr + 1 = k'.val
    omega

theorem proc_of_procInstr {p : Proc} {i : Instr} (h : procInstr p = some i) :
    (i = .sha3WrReset → p = .shaWrReset) ∧ (i = .sha3WrFifo → ∃ j, p = .shaWrFifo j) ∧
    (i = .sha3WrStart → p = .shaWrStart) ∧ (i = .sha3RdReady → ∃ a, p = .shaPoll a) ∧
    (i = .sha3RdDigest → ∃ k, p = .shaRdDigest k) := by
  cases p <;> cases h <;> simp

theorem hashOrdered_busMove {s t : State} {i : Instr} (h : HashOrdered s) (hi : procInstr s.seq.proc = some i)
    (hm : BusMove s i t) : HashOrdered t := by
  have hq : t.env.busRequest = none := (frame_busMove hm).request.trans h.1
  obtain ⟨hreset, hfifo, hstart, hready, hdigest⟩ := proc_of_procInstr hi
  cases hm with
  | wrReset hcmd v => exact hashOrdered_wrReset h (hreset rfl) hcmd v
  | wrFifo hj =>
    obtain ⟨j, hp⟩ := hfifo rfl
    exact (hashOrdered_wrFifo h hp).1 hj
  | wrFifoLast hj =>
    obtain ⟨j, hp⟩ := hfifo rfl
    exact (hashOrdered_wrFifo h hp).2 hj
  | wrShaStart v => exact hashOrdered_wrShaStart h (hstart rfl) v
  | shaDone =>
    obtain ⟨a, hp⟩ := hready rfl
    exact hashOrdered_shaDone h hp
  | shaAgain =>
    obtain ⟨a, hp⟩ := hready rfl
    exact hashOrdered_shaAgain h hp _
  | rdDigest k' hk =>
    obtain ⟨k, hp⟩ := hdigest rfl
    exact hashOrdered_rdDigest h hp hk
  | @wrData k p hp =>
    have hboth := inRsaBlock_and_inHash p
    rw [hp, Bool.true_and] at hboth
    exact hashOrdered_of_not_inHash hq hboth
  | _ => exact hashOrdered_of_not_inHash hq (by simp [inHash])

theorem hashOrdered_move {s t : State} (h : HashOrdered s) (hm : Move s t) : HashOrdered t := by
  have hq : t.env.busRequest = none := (frame_move hm).request.trans h.1
  cases hm with
  | reset => exact hashOrdered_of_not_inHash hq rfl
  | port _ _ hm => exact hashOrdered_portMove h hm
  | bus _ hi hm => exact hashOrdered_busMove h hi hm
  | fill _ hp =>
    obtain hp | hp := fillStep_proc hp <;> exact hashOrdered_of_not_inHash hq (by rw [hp]; rfl)
  | rest _ hrest hm =>
    obtain hp | hp | ⟨m, rfl⟩ := restMove_proc ((resting_iff s).1 hrest).1 hm
    · exact hashOrdered_of_not_inHash hq (by rw [hp]; rfl)
    · exact hashOrdered_of_not_inHash hq (by rw [hp]; rfl)
    · exact hashOrdered_hashBegin h.1 m false

/-- Settles O53: each transaction of a hash takes the stream one word on, and every other move leaves the procedure or
begins it anew. -/
theorem hashOrderKept : Obligations.HashOrderKept := fun _ _ h hstep => hashOrdered_move h (step_move h.1 hstep)

end Sys2Proof.Proofs.Engines
end

section
/-! PROOF. The staging store (20_memory section 4, 42_protocol section 2): every move keeps it canonical and holding the
bytes that the run counts on, so no step reads an unwritten byte, passes the store's end, or stands without a rule. -/

namespace Sys2Proof.Proofs.Staging
open Sys2Proof Sys2Proof.Machine Sys2Proof.Safety
open Sys2Proof.Proofs.SilentSteps Sys2Proof.Proofs.Moves Sys2Proof.Proofs.Frames Sys2Proof.Proofs.Sequencing

/-! ### Soundness of a next state -/

theorem covered_zero (s : State) : Covered s 0 := fun _ h => (Nat.not_lt_zero _ h).elim

theorem covered_congr {s t : State} {n m : Nat} (h : Covered s n) (hs : t.stage = s.stage) (hn : m = n) :
    Covered t m := by
  subst hn
  intro a ha
  rw [State.stageByte, hs]
  exact h a ha

/-- A move that leaves the store and `img_len` alone is judged by the session it leads to. -/
theorem stageSound_of_session {s t : State} (h : StageSound s) (hs : t.stage = s.stage)
    (hl : t.run.imgLen = s.run.imgLen) (hr : t.seq.sess.active = true → Covered s t.ses.imgRcvd)
    (hp : ImageProgress t) : StageSound t := by
  obtain ⟨hwf, hlen, -, -⟩ := h
  exact ⟨hs ▸ hwf, covered_congr hlen hs (by rw [hl]), fun ha => covered_congr (hr ha) hs rfl, hp⟩

theorem imageProgress_noSession {t : State} (h : t.seq.sess = .noSession) : ImageProgress t := by
  simp [ImageProgress, h]

theorem stageSound_of_noSession {s t : State} (h : StageSound s) (hs : t.stage = s.stage)
    (hl : t.run.imgLen = s.run.imgLen) (hx : t.seq.sess = .noSession) : StageSound t :=
  stageSound_of_session h hs hl (fun ha => by rw [hx] at ha; cases ha) (imageProgress_noSession hx)

/-- A session before the image: nothing has been received (R126). -/
def beforeImage : SessState → Bool
  | .init | .checkSent | .awaitM1 | .challengeSent | .awaitM3 | .authenticated => true
  | .awaitImageSize | .receivingImage | .imageComplete | .sessionDone | .failed | .noSession => false

theorem imgRcvd_beforeImage {s : State} (h : ImageProgress s) (hx : beforeImage s.seq.sess = true) :
    s.ses.imgRcvd = 0 := by
  unfold ImageProgress at h
  split at h <;> simp_all [beforeImage]

theorem imageProgress_beforeImage {t : State} (hx : beforeImage t.seq.sess = true) (h : t.ses.imgRcvd = 0) :
    ImageProgress t := by
  unfold ImageProgress
  split <;> simp_all [beforeImage]

/-- From one place before the image to another. -/
theorem stageSound_beforeImage {s t : State} (h : StageSound s) (hs : t.stage = s.stage)
    (hl : t.run.imgLen = s.run.imgLen) (hr : t.ses.imgRcvd = s.ses.imgRcvd) (hx : beforeImage s.seq.sess = true)
    (hy : beforeImage t.seq.sess = true) : StageSound t := by
  have hzero : t.ses.imgRcvd = 0 := hr.trans (imgRcvd_beforeImage h.2.2.2 hx)
  exact stageSound_of_session h hs hl (fun _ => by rw [hzero]; exact covered_zero s) (imageProgress_beforeImage hy hzero)

/-- A raise keeps what was received and ends the session, or the command. -/
theorem stageSound_raise {s u : State} (h : StageSound s) (hq : u.seq = s.seq) (hs : u.stage = s.stage)
    (hl : u.run.imgLen = s.run.imgLen) (hr : u.ses.imgRcvd = s.ses.imgRcvd) (c : Cause) : StageSound (u.raise c) := by
  cases ha : u.seq.sess.active
  · exact stageSound_of_noSession h (by simp [hs]) (by simp [ha, hl]) (by simp [ha])
  · refine stageSound_of_session h (by simp [hs]) (by simp [ha, hl]) (fun _ => ?_) ?_
    · rw [State.raise_ses, hr]
      exact h.2.2.1 (hq ▸ ha)
    · simp [ImageProgress, ha]

/-! ### The moves -/

theorem stageSound_portMove {s t : State} (hp : Placed s) (h : StageSound s) (hb : s.port.busy = false)
    (hm : PortMove s t) : StageSound t := by
  obtain ⟨hx, hr, -⟩ := idle_of_placed hp hb
  have ha : s.seq.sess.active = false := by rw [hx]; rfl
  have hv : s.seq.run ≠ .valDecrypt := fun hv => by rw [hv] at hr; cases hr
  cases hm with
  | rest => exact h
  | raised => exact stageSound_of_noSession h (by simp) (by simp [ha]) (by simp [ha])
  | @encryptNothing w d p key n =>
    have he := State.rsaReturn_in_command (s := (s.accept w d).beginRsa .encrypt key p n) [] ha hv
    rw [he]
    exact stageSound_of_noSession h rfl rfl rfl
  | run d =>
    refine ⟨h.1, covered_zero _, fun _ => covered_zero _, imageProgress_beforeImage rfl rfl⟩
  | _ => exact stageSound_of_noSession h rfl rfl hx

/-- What a transaction that raises nothing leaves of the session: its place, or nothing, and the bytes received. -/
theorem busMove_session {s t : State} {i : Instr} (hm : BusMove s i t) :
    (∃ (u : State) (c : Cause), u.seq = s.seq ∧ u.stage = s.stage ∧ u.run = s.run ∧ u.ses.imgRcvd = s.ses.imgRcvd ∧ t = u.raise c) ∨
    ((t.seq.sess = s.seq.sess ∨ t.seq.sess = .noSession) ∧ t.ses.imgRcvd = s.ses.imgRcvd ∧
      t.run.imgLen = s.run.imgLen) := by
  cases hm with
  | rsaTimeout | badHeader | shaTimeout => 
    refine .inl ⟨_, _, ?_, ?_, ?_, ?_, rfl⟩
    all_goals rfl
  | opDone k acc =>
    refine .inr ?_
    rw [rsaReturn_eq]
    dsimp only
    refine ⟨?_, ?_, ?_⟩
    · split
      · exact .inl rfl
      · split
        · exact .inl rfl
        · exact .inr rfl
    · split <;> rfl
    · split
      · rfl
      · split <;> rfl
  | wrResetCommand | hashed => exact .inr ⟨.inr rfl, rfl, rfl⟩
  | _ => exact .inr ⟨.inl rfl, rfl, rfl⟩

/-- An engine procedure runs in a session before the image, or in none. -/
theorem session_of_proc {s : State} (hp : Placed s) (hs : Running s) (h : resting s = false) :
    beforeImage s.seq.sess = true ∨ s.seq.sess = .noSession := by
  have none (ha : s.seq.sess.active = false) : s.seq.sess = .noSession := by
    revert ha
    cases s.seq.sess <;> simp [SessState.active]
  obtain ⟨hr, -⟩ | ⟨-, hc⟩ | ⟨-, ha, -⟩ := (busyPlace_iff s).1 (busyPlace_of_placed hp (busy_of_running hs))
  · exact (Bool.false_ne_true (h.symm.trans hr)).elim
  · cases ha : s.seq.sess.active
    · exact .inr (none ha)
    · rw [RsaCaller, if_pos ha] at hc
      obtain ⟨-, -, hx | ⟨hx, -⟩⟩ := hc <;> exact .inl (by rw [hx]; rfl)
  · exact .inr (none ha)

theorem stageSound_in_proc {s t : State} (hp : Placed s) (h : StageSound s) (hs : Running s) (hrest : resting s = false)
    (hstage : t.stage = s.stage) (hx : t.seq.sess = s.seq.sess ∨ t.seq.sess = .noSession)
    (hr : t.ses.imgRcvd = s.ses.imgRcvd) (hl : t.run.imgLen = s.run.imgLen) : StageSound t := by
  obtain hx | hx := hx
  · obtain hy | hy := session_of_proc hp hs hrest
    · exact stageSound_beforeImage h hstage hl hr hy (hx ▸ hy)
    · exact stageSound_of_noSession h hstage hl (hx.trans hy)
  · exact stageSound_of_noSession h hstage hl hx

theorem stageSound_busMove {s t : State} {i : Instr} (hp : Placed s) (h : StageSound s) (hs : Running s)
    (hi : procInstr s.seq.proc = some i) (hm : BusMove s i t) : StageSound t := by
  have hrest : resting s = false := by
    refine Bool.eq_false_iff.2 fun hr => ?_
    rw [((resting_iff s).1 hr).1] at hi
    cases hi
  obtain ⟨u, c, hq, hstage, hl, hr, rfl⟩ | ⟨hx, hr, hl⟩ := busMove_session hm
  · exact stageSound_raise h hq hstage (by rw [hl]) hr c
  · exact stageSound_in_proc hp h hs hrest (stage_busMove hm) hx hr hl

theorem stageSound_fillStep {s : State} (hp : Placed s) (h : StageSound s) (hs : Running s)
    (hf : s.rsa.filling = true) : StageSound s.fillStep := by
  have hrest : resting s = false := Bool.eq_false_iff.2 fun hr => by rw [filling_of_resting hr] at hf; cases hf
  obtain ⟨-, he⟩ | ⟨-, he⟩ := s.fillStep_cases <;>
    exact stageSound_in_proc hp h hs hrest (by simp) (by rw [he]; simp) (by rw [he]; simp) (by rw [he]; simp)

/-- A chunk's staging covers what has been received with it (R127). -/
theorem covered_staged {s : State} (h : Covered s s.ses.imgRcvd) :
    Covered (s.stageWrite s.ses.imgRcvd s.ses.held) (s.ses.imgRcvd + s.ses.held.length) := by
  intro a ha
  by_cases hlt : a < s.ses.imgRcvd
  · exact Memory.load_storeBytes_isSome _ _ _ _ (h a hlt)
  · obtain ⟨i, rfl⟩ := Nat.exists_eq_add_of_le (Nat.not_lt.1 hlt)
    rw [State.stageByte, State.stageWrite_stage, Memory.load_storeBytes_inside _ _ _ i (by omega)]
    rfl

theorem stageSound_staged {s : State} (h : StageSound s) (hx : s.seq.sess = .receivingImage)
    (hphase : s.seq.phase = .chunk) : StageSound (State.goPhase .start
      { s.stageWrite s.ses.imgRcvd s.ses.held with
        ses := { s.ses with imgRcvd := s.ses.imgRcvd + s.ses.held.length, held := [] } }) := by
  obtain ⟨hwf, hlen, hrcvd, hprog⟩ := h
  simp only [ImageProgress, hx] at hprog
  obtain ⟨hcap, -, hchunk⟩ := hprog
  refine ⟨Memory.wf_storeBytes _ _ _ hwf, fun a ha => ?_, fun _ => ?_, ?_⟩
  · exact Memory.load_storeBytes_isSome _ _ _ _ (hlen a ha)
  · exact covered_staged (hrcvd (by rw [hx]; rfl))
  · simp only [ImageProgress, State.goPhase_seq, State.stageWrite_seq, hx]
    exact ⟨hcap, hchunk hphase, by simp⟩

/-- A session that succeeded leaves `img_len` covered (R130). -/
theorem covered_recordSuccess {s : State} (h : StageSound s) (hx : s.seq.sess = .sessionDone) :
    Covered s s.recordSuccess.run.imgLen.toNat := by
  obtain ⟨-, hlen, hrcvd, hprog⟩ := h
  simp only [ImageProgress, hx] at hprog
  cases hrole : s.ses.role with
  | updating =>
    simp only [State.recordSuccess, hrole]
    rw [← hprog hrole]
    exact hrcvd (by rw [hx]; rfl)
  | confirming =>
    simp only [State.recordSuccess, hrole]
    exact hlen

/-- To a place of the receiving sessions: nothing received, the size taken within the store, or its bytes coming in. -/
theorem stageSound_in_image {s t : State} (h : StageSound s) (hs : t.stage = s.stage) (hl : t.run.imgLen = s.run.imgLen)
    (ha : s.seq.sess.active = true) (hr : t.ses.imgRcvd = s.ses.imgRcvd) (hp : ImageProgress t) : StageSound t :=
  stageSound_of_session h hs hl (fun _ => hr ▸ h.2.2.1 ha) hp

theorem stageSound_restMove {s t : State} (h : StageSound s) (hm : RestMove s t) : StageSound t := by
  obtain ⟨hwf, hlen, hrcvd, hprog⟩ := id h
  cases hm with
  | raised hu c => exact stageSound_raise h hu.seq hu.stage (by rw [hu.run]) hu.imgRcvd c
  | checkSkipped hx | checkSent hx | answered hx | authenticated hx | toM1 hx | toM3 hx =>
    exact stageSound_beforeImage h rfl rfl rfl (by rw [hx]; rfl) rfl
  | challenged hx | sealing hx =>
    exact stageSound_beforeImage h rfl rfl rfl (by rw [hx]; rfl) (by simp [nonceDrawn, hx, beforeImage])
  | sealedNothing hx key p n =>
    have ha : s.seq.sess.active = true := by rw [hx]; rfl
    have he := State.rsaReturn_in_session (s := (nonceDrawn s).beginRsa .encrypt key p n) [] ha
    rw [he]
    exact stageSound_beforeImage h rfl rfl rfl (by rw [hx]; rfl) (by simp [nonceDrawn, hx, beforeImage])
  | opening hx =>
    have hb : beforeImage s.seq.sess = true := by obtain hx | hx := hx <;> rw [hx] <;> rfl
    exact stageSound_beforeImage h (by simp) (by simp) (by simp) hb (by simpa using hb)
  | received hx | framed hx =>
    obtain ⟨hx, hp⟩ := hx
    have ha : s.seq.sess.active = true := by obtain hx | hx | hx := hx <;> rw [hx] <;> rfl
    refine stageSound_in_image h rfl rfl ha rfl ?_
    obtain hx | hx | hx := hx <;> simpa [ImageProgress, hx, hp] using hprog
  | sized hx hsize =>
    refine stageSound_in_image h rfl rfl (by rw [hx]; rfl) rfl ?_
    simp only [ImageProgress, hx] at hprog
    simpa [ImageProgress, hx, hprog] using hsize
  | acked hx hp =>
    refine stageSound_in_image h rfl rfl (by rw [hx]; rfl) rfl ?_
    simp only [ImageProgress, hx] at hprog
    simp [ImageProgress, hprog.1, hprog.2 hp]
  | ended hx =>
    refine stageSound_in_image h rfl rfl (by rw [hx]; rfl) rfl ?_
    simp only [ImageProgress, hx] at hprog
    simp [ImageProgress, hprog]
  | staged hx hp => exact stageSound_staged h hx hp
  | chunk hx r rest hr =>
    refine stageSound_in_image h rfl rfl (by rw [hx]; rfl) rfl ?_
    simp only [ImageProgress, hx] at hprog
    simpa [ImageProgress, hx, hprog.1, hprog.2.1] using hr
  | imageDone hx hr =>
    refine stageSound_in_image h rfl rfl (by rw [hx]; rfl) rfl ?_
    simp only [ImageProgress, hx] at hprog
    exact le_antisymm hprog.2.1 hr
  | confirmed hx hrole =>
    refine stageSound_in_image h rfl rfl (by rw [hx]; rfl) rfl ?_
    simp [ImageProgress, hrole]
  | toImage hx hrole =>
    refine stageSound_in_image h rfl rfl (by rw [hx]; rfl) rfl ?_
    simp only [ImageProgress, hx] at hprog
    simp [ImageProgress, hprog]
  | nextSession hx =>
    exact ⟨hwf, covered_congr (covered_recordSuccess h hx) rfl rfl, fun _ => covered_zero _, imageProgress_beforeImage rfl rfl⟩
  | lastSessionFailed hx | validate hx =>
    exact ⟨hwf, covered_congr (covered_recordSuccess h hx) rfl rfl, nofun, imageProgress_noSession rfl⟩
  | failed => exact stageSound_of_noSession h rfl rfl rfl
  | nextAfterFailure =>
    exact stageSound_of_session h rfl rfl (fun _ => covered_zero s) (imageProgress_beforeImage rfl rfl)
  | opensImage hx => exact stageSound_of_noSession h (by simp) (by simp) (by simpa using hx)
  | parsed hx | hashes hx => exact stageSound_of_noSession h rfl rfl hx
  | agreed => exact stageSound_of_noSession h rfl rfl rfl

theorem stageSound_move {s t : State} (hp : Placed s) (h : StageSound s) (hm : Move s t) : StageSound t := by
  cases hm with
  | reset => exact ⟨h.1, covered_zero _, nofun, imageProgress_noSession rfl⟩
  | port _ hb hm => exact stageSound_portMove hp h hb hm
  | bus hs hi hm => exact stageSound_busMove hp h hs hi hm
  | fill hs _ hf => exact stageSound_fillStep hp h hs hf
  | rest _ _ hm => exact stageSound_restMove h hm

/-- Settles O54: the bytes that a run counts on are those its session staged, and no other move writes the store. -/
theorem stagingInvariantKept : Obligations.StagingInvariantKept :=
  fun _ _ hp h hstep => stageSound_move hp h (step_move (request_of_placed hp) hstep)

/-! ### No fault -/

/-- An instruction faults in one place only: the staging of a chunk past the store's end (R127). -/
theorem exec_fault {i : Instr} {s : State} {f : Fault} (h : exec i s = .fault f) :
    i = .imageData ∧ s.seq.phase = .chunk ∧ s.stageFits s.ses.imgRcvd s.ses.held = false := by
  cases i with
  | rsaEncrypt | rsaDecrypt | sha3Reset | sha3Hash | protoRun =>
    simp [exec, execRsaEncrypt, execRsaDecrypt, execSha3Reset, execSha3Hash, execProtoRun, State.command_ne_fault] at h
  | imageData =>
    change execImageData s = _ at h
    unfold execImageData at h
    split at h
    · unfold State.stageChunk at h
      split at h <;> rename_i hfits
      · cases h
      · exact ⟨rfl, ‹_›, by simpa using hfits⟩
    · cases h
  | _ => cases h

theorem stageFits_of_sound {s : State} (h : StageSound s) (hx : s.seq.sess = .receivingImage)
    (hp : s.seq.phase = .chunk) : s.stageFits s.ses.imgRcvd s.ses.held = true := by
  obtain ⟨-, -, -, hprog⟩ := h
  simp only [ImageProgress, hx] at hprog
  obtain ⟨hcap, -, hchunk⟩ := hprog
  exact decide_eq_true ((hchunk hp).trans hcap)

theorem sess_of_tag_imageData {x : SessState} {p : Phase} {t : BitVec 8} (ht : sessionTag x p = some t)
    (hi : decodeMsg t = .ok .imageData) : x = .receivingImage := by
  cases x <;> cases p <;> cases ht <;> cases hi <;> rfl

theorem stageRead_isSome {s : State} (h : StageSound s) : (s.stageRead 0 s.run.imgLen.toNat).isSome :=
  Memory.loadBytes_isSome _ _ _ fun a _ ha => h.2.1 a (by omega)

/-- A place at rest without a message has a silent rule (R120, R125, R130, R131), or is validation's. -/
theorem silent_place {x : SessState} {p : Phase} (h : restPhase x p = true) (ht : sessionTag x p = none) :
    x = .checkSent ∨ x = .challengeSent ∨ x = .authenticated ∨ x = .sessionDone ∨ x = .failed := by
  cases x <;> cases p <;> simp_all [restPhase, sessionTag]

theorem runSilentStep_ne_fault {s : State} (h : StageSound s) (hv : validating s.seq.run = true) (f : Fault) :
    s.runSilentStep ≠ .fault f := by
  unfold State.runSilentStep
  cases hr : s.seq.run with
  | valDecrypt =>
    obtain ⟨img, himg⟩ := Option.isSome_iff_exists.1 (stageRead_isSome h)
    simp [State.valDecryptStep, himg]
  | valParse | valHash | valCompare => exact nofun
  | runIdle | runGU | runGC | runReady | runFailed => rw [hr] at hv; cases hv

theorem silentStep_ne_fault {s : State} (hp : RestPlace s) (h : StageSound s) (hb : s.port.busy = true)
    (hf : s.rsa.filling = false) (ht : sessionTag s.seq.sess s.seq.phase = none) (f : Fault) :
    s.silentStep ≠ .fault f := by
  simp only [State.silentStep, hb, hf, Bool.true_eq_false, Bool.false_eq_true, if_false]
  rw [RestPlace] at hp
  split at hp
  · obtain hx | hx | hx | hx | hx := silent_place hp.2 ht <;> rw [hx] <;> exact nofun
  · have hx : s.seq.sess = .noSession := by
      revert ‹¬s.seq.sess.active = true›
      cases s.seq.sess <;> simp [SessState.active]
    rw [hx]
    exact runSilentStep_ne_fault h hp f

theorem step_ne_fault {s : State} (hp : Placed s) (h : StageSound s) (f : Fault) : step s ≠ .fault f := by
  obtain ⟨-, he⟩ | ⟨-, -, -, he⟩ | ⟨l, rest, i, -, -, -, hi, he⟩ | ⟨l, rest, e, -, -, -, -, he⟩ | ⟨i, -, hi, he⟩ |
    ⟨-, -, -, he⟩ | ⟨g, i, -, -, -, hg, hi, he⟩ | ⟨hs, hproc, hf, ht, he⟩ :=
    step_result_cases (request_of_placed hp) <;> rw [he]
  · exact nofun
  · exact nofun
  · intro hx
    obtain ⟨rfl, -⟩ := exec_fault hx
    simpa using decodeCmd_ok hi
  · exact State.gated_ne_fault f
  · intro hx
    obtain ⟨rfl, -⟩ := exec_fault hx
    obtain ⟨d, hd⟩ := encode_procInstr hi
    cases hd
  · exact nofun
  · intro hx
    obtain ⟨rfl, hphase, hfits⟩ := exec_fault hx
    rw [stageFits_of_sound h (sess_of_tag_imageData hg hi) hphase] at hfits
    cases hfits
  · exact silentStep_ne_fault (restPlace_of_resting hp (busy_of_running hs) ((resting_iff s).2 ⟨hproc, hf⟩)) h
      (busy_of_running hs) hf ht f

/-! ### What a state becomes -/

theorem placed_environment {s : State} (h : Placed s) {e : Env} (he : e.busRequest = none) :
    Placed { s with env := e } := ⟨he, h.2⟩

/-- Steps and changes of the environment keep a placed state with a sound store. -/
theorem staging_of_evolves {s t : State} (h : Evolves s t) (hp : Placed s) (hs : StageSound s) :
    Placed t ∧ StageSound t := by
  induction h with
  | refl => exact ⟨hp, hs⟩
  | step _ hstep ih =>
    obtain ⟨hpt, hst⟩ := ih
    exact ⟨sequencingInvariantKept _ _ hpt hstep, stagingInvariantKept _ _ hpt hst hstep⟩
  | environment e _ he ih =>
    obtain ⟨hpt, hst⟩ := ih
    exact ⟨placed_environment hpt he, hst⟩

/-- Settles O57: the two invariants hold of every state that is reached, and under them a step has a rule and its
staged bytes. -/
theorem soundStatesNeverFault : Obligations.SoundStatesNeverFault := by
  intro s t f hp hs hev
  obtain ⟨hpt, hst⟩ := staging_of_evolves hev hp hs
  exact step_ne_fault hpt hst f

end Sys2Proof.Proofs.Staging
end

section
/-! PROOF. The quorum (42_protocol sections 3 to 5): the log and the attestations follow the sessions, and
`ready_to_install` stands for a completed run with full agreement, in every state reached. -/

namespace Sys2Proof.Proofs.Quorum
open Sys2Proof Sys2Proof.Machine Sys2Proof.Safety
open Sys2Proof.Proofs.SilentSteps Sys2Proof.Proofs.Moves Sys2Proof.Proofs.Frames Sys2Proof.Proofs.Sequencing
open Sys2Proof.Proofs.Staging

/-! ### The records of a next state -/

/-- While `ready_to_install` is 0 the invariant speaks of the session and the log alone. -/
theorem quorumSound_of_not_ready {t : State} (hf : SessionFits t) (hl : LogFollows t) (hr : t.out.ready = false) :
    QuorumSound t :=
  ⟨hf, hl, fun h => (Bool.false_ne_true (hr.symm.trans h)).elim⟩

theorem ready_of_busy {s : State} (h : QuorumSound s) (hb : s.port.busy = true) : s.out.ready = false := by
  refine Bool.eq_false_iff.2 fun hr => ?_
  obtain ⟨hb', -⟩ := h.2.2 hr
  exact Bool.false_ne_true (hb'.symm.trans hb)

theorem sessionFits_noSession {t : State} (hx : t.seq.sess = .noSession) : SessionFits t := by
  simp [SessionFits, hx, pastNonceCheck, SessState.active]

theorem logFollows_inactive {t : State} (hr : t.seq.run.active = false) : LogFollows t := by
  unfold LogFollows
  cases hx : t.seq.run <;> rw [hx] at hr <;> simp_all [RunState.active]

/-- A next state whose records, role and nonce check stand as before; what has been sent may be noted (R119). -/
structure SameRecords (s t : State) : Prop where
  cfg : t.cfg = s.cfg
  runState : t.seq.run = s.seq.run
  run : ∃ b, t.run = { s.run with checkSent := b }
  role : t.ses.role = s.ses.role
  ok : t.ses.ok = s.ses.ok

theorem logFollows_congr {s t : State} (h : LogFollows s) (hs : SameRecords s t)
    (hx : s.seq.sess = .failed → t.seq.sess = .failed) : LogFollows t := by
  obtain ⟨hc, hr, ⟨b, hrun⟩, -, -⟩ := hs
  simp only [LogFollows, AllSucceeded, hr, hrun, hc] at h ⊢
  generalize s.seq.run = r at h ⊢
  cases r with
  | runGU =>
    obtain ⟨hgc, hatt, hlog⟩ := h
    exact ⟨hgc, hatt, fun hn => hlog fun hf => hn (hx hf)⟩
  | runGC => exact fun hn => h fun hf => hn (hx hf)
  | _ => exact h

theorem sessionFits_congr {s t : State} (h : SessionFits s) (hs : SameRecords s t)
    (ha : t.seq.sess.active = true → s.seq.sess.active = true)
    (hp : pastNonceCheck t.seq.sess = true → pastNonceCheck s.seq.sess = true) : SessionFits t := by
  obtain ⟨hok, hgu, hgc⟩ := h
  obtain ⟨hc, hr, ⟨b, hrun⟩, hrole, hok'⟩ := hs
  simp only [SessionFits, hr, hrun, hc, hrole, hok']
  exact ⟨fun h => hok (hp h), fun h => hgu (ha h), fun h => hgc (ha h)⟩

/-- The records stand, and the session's place changes within what they say. -/
theorem quorumSound_of_same {s t : State} (h : QuorumSound s) (hs : SameRecords s t) (hr : t.out.ready = false)
    (hx : s.seq.sess = .failed → t.seq.sess = .failed) (ha : t.seq.sess.active = true → s.seq.sess.active = true)
    (hp : pastNonceCheck t.seq.sess = true → pastNonceCheck s.seq.sess = true) : QuorumSound t :=
  quorumSound_of_not_ready (sessionFits_congr h.1 hs ha hp) (logFollows_congr h.2.1 hs hx) hr

/-- The command ends, outside a run. -/
theorem quorumSound_of_ended {t : State} (hx : t.seq.sess = .noSession) (hr : t.seq.run.active = false)
    (hready : t.out.ready = false) : QuorumSound t :=
  quorumSound_of_not_ready (sessionFits_noSession hx) (logFollows_inactive hr) hready

/-- A raise logs the failure of the running session, or ends the command. -/
theorem quorumSound_raise {s u : State} (h : QuorumSound s) (hc : u.cfg = s.cfg) (hq : u.seq = s.seq)
    (hrun : u.run = s.run) (hrole : u.ses.role = s.ses.role) (hready : u.out.ready = false)
    (hsess : s.seq.sess.active = true → s.seq.run = .runGU ∨ s.seq.run = .runGC) (c : Cause) :
    QuorumSound (u.raise c) := by
  cases ha : s.seq.sess.active
  · refine quorumSound_of_ended (by simp [hq, ha]) ?_ (by simpa using hready)
    cases hr : s.seq.run.active
    · simp [hq, ha, hr]
    · simp only [State.raise_seq, hq, ha, hr]
      rfl
  · obtain ⟨⟨-, hgu, hgc⟩, hlog, -⟩ := h
    refine quorumSound_of_not_ready ⟨?_, ?_, ?_⟩ ?_ (by simpa using hready)
    · simp [hq, ha, pastNonceCheck]
    · simpa [hq, ha, hrole, hrun] using fun _ hr => hgu ha hr
    · simpa [hq, ha, hrole, hrun, hc] using fun _ hr => hgc ha hr
    · obtain hr | hr := hsess ha
      · simp only [LogFollows, hr] at hlog
        simp [LogFollows, hq, ha, hr, hrun, hlog]
      · simp [LogFollows, hq, ha, hr]

/-! ### The moves -/

theorem quorumSound_portMove {s t : State} (hp : Placed s) (h : QuorumSound s) (hb : s.port.busy = false)
    (hm : PortMove s t) : QuorumSound t := by
  obtain ⟨hx, hr, -⟩ := idle_of_placed hp hb
  have ha : s.seq.sess.active = false := by rw [hx]; rfl
  have hv : s.seq.run ≠ .valDecrypt := fun hv => by rw [hv] at hr; cases hr
  cases hm with
  | rest => exact h
  | raised => exact quorumSound_of_ended (by simp [ha]) (by simp [ha, hr]) (by simp)
  | @encryptNothing w d p key n =>
    have he := State.rsaReturn_in_command (s := (s.accept w d).beginRsa .encrypt key p n) [] ha hv
    rw [he]
    exact quorumSound_of_ended rfl hr rfl
  | run d =>
    refine quorumSound_of_not_ready ⟨nofun, fun _ _ => ⟨rfl, rfl⟩, nofun⟩ ?_ rfl
    exact ⟨rfl, rfl, fun _ => rfl⟩
  | _ => exact quorumSound_of_ended hx hr rfl

/-- What a transaction that raises nothing does to the records: nothing, in the session or the command; or it goes on
in validation with the image opened or hashed. -/
inductive RecordMove (s t : State) : Prop
  | same (h : SameRecords s t) (hx : t.seq.sess = s.seq.sess)
  | ended (hb : t.port.busy = false)
  | opened (hr : s.seq.run = .valDecrypt) (hr' : t.seq.run = .valParse) (hx : t.seq.sess = s.seq.sess)
      (hc : t.cfg = s.cfg) (hrun : ∃ img, t.run = { s.run with decImg := img }) (ha : s.seq.sess.active = false)
  | hashed (hr : s.seq.run = .valHash) (hr' : t.seq.run = .valCompare) (hx : t.seq.sess = s.seq.sess)
      (hc : t.cfg = s.cfg) (hrun : ∃ d, t.run = { s.run with digest := d })

theorem recordMove_rsaReturn {s u : State} (hc : u.cfg = s.cfg) (hrun : u.seq.run = s.seq.run)
    (hx : u.seq.sess = s.seq.sess) (hr : u.run = s.run) (hrole : u.ses.role = s.ses.role) (hok : u.ses.ok = s.ses.ok)
    (out : Bytes) : RecordMove s (u.rsaReturn out) := by
  cases ha : u.seq.sess.active
  · by_cases hv : u.seq.run = .valDecrypt
    · rw [State.rsaReturn_in_validation out ha hv]
      exact .opened (hrun ▸ hv) rfl hx hc ⟨out, by rw [hr]⟩ (hx ▸ ha)
    · rw [State.rsaReturn_in_command out ha hv]
      exact .ended rfl
  · rw [State.rsaReturn_in_session out ha]
    exact .same ⟨hc, hrun, ⟨_, hr⟩, hrole, hok⟩ hx

theorem busMove_records {s t : State} {i : Instr} (hm : BusMove s i t) :
    (∃ (u : State) (c : Cause), u.cfg = s.cfg ∧ u.seq = s.seq ∧ u.run = s.run ∧ u.ses = s.ses ∧ u.out = s.out ∧
      t = u.raise c) ∨
    (RecordMove s t ∧ t.out = s.out) := by
  cases hm with
  | rsaTimeout | badHeader | shaTimeout =>
    refine .inl ⟨_, _, ?_, ?_, ?_, ?_, ?_, rfl⟩
    all_goals rfl
  | opDone k acc =>
    refine .inr ⟨recordMove_rsaReturn ?_ ?_ ?_ ?_ ?_ ?_ acc, by simp [blockOut]⟩
    all_goals rfl
  | wrResetCommand | hashed => exact .inr ⟨.ended rfl, rfl⟩
  | hashedImage hrun => exact .inr ⟨.hashed hrun rfl rfl rfl ⟨_, rfl⟩, rfl⟩
  | _ => exact .inr ⟨.same ⟨rfl, rfl, ⟨_, rfl⟩, rfl, rfl⟩ rfl, rfl⟩

theorem sess_of_not_active {x : SessState} (h : x.active = false) : x = .noSession := by
  revert h
  cases x <;> simp [SessState.active]

theorem logFollows_opened {s t : State} (h : LogFollows s) (hr : s.seq.run = .valDecrypt) (hr' : t.seq.run = .valParse)
    (hc : t.cfg = s.cfg) (hrun : ∃ img, t.run = { s.run with decImg := img }) : LogFollows t := by
  obtain ⟨img, hrun⟩ := hrun
  simp only [LogFollows, hr] at h
  simpa only [LogFollows, hr', AllSucceeded, hrun, hc] using h

theorem logFollows_hashed {s t : State} (h : LogFollows s) (hr : s.seq.run = .valHash) (hr' : t.seq.run = .valCompare)
    (hc : t.cfg = s.cfg) (hrun : ∃ d, t.run = { s.run with digest := d }) : LogFollows t := by
  obtain ⟨d, hrun⟩ := hrun
  simp only [LogFollows, hr] at h
  simpa only [LogFollows, hr', AllSucceeded, hrun, hc] using h

theorem quorumSound_recordMove {s t : State} (hp : Placed t) (h : QuorumSound s)
    (hgu : s.seq.run = .valHash → s.seq.sess = .noSession) (hready : t.out.ready = false) (hm : RecordMove s t) :
    QuorumSound t := by
  cases hm with
  | same hrec hx => exact quorumSound_of_same h hrec hready (fun hf => hx ▸ hf) (fun ha => hx ▸ ha) (fun ha => hx ▸ ha)
  | ended hb =>
    obtain ⟨hx, hr, -⟩ := idle_of_placed hp hb
    exact quorumSound_of_ended hx hr hready
  | opened hr hr' hx hc hrun ha =>
    exact quorumSound_of_not_ready (sessionFits_noSession (hx.trans (sess_of_not_active ha)))
      (logFollows_opened h.2.1 hr hr' hc hrun) hready
  | hashed hr hr' hx hc hrun =>
    exact quorumSound_of_not_ready (sessionFits_noSession (hx.trans (hgu hr)))
      (logFollows_hashed h.2.1 hr hr' hc hrun) hready

/-- No session is active in validation (R132). -/
theorem noSession_of_valHash {s : State} (hp : Placed s) (hb : s.port.busy = true) (hr : s.seq.run = .valHash) :
    s.seq.sess = .noSession := by
  refine sess_of_not_active (Bool.eq_false_iff.2 fun ha => ?_)
  obtain h | h := run_of_session hp hb ha <;> cases hr.symm.trans h

theorem quorumSound_busMove {s t : State} {i : Instr} (hp : Placed s) (h : QuorumSound s) (hs : Running s)
    (hi : procInstr s.seq.proc = some i) (hm : BusMove s i t) : QuorumSound t := by
  have hb := busy_of_running hs
  have hready := ready_of_busy h hb
  obtain ⟨u, c, hc, hq, hrun, hses, hout, rfl⟩ | ⟨hrec, hout⟩ := busMove_records hm
  · exact quorumSound_raise h hc hq hrun (by rw [hses]) (by rw [hout, hready]) (run_of_session hp hb) c
  · exact quorumSound_recordMove (placed_busMove hp hs hi hm) h (noSession_of_valHash hp hb) (by rw [hout, hready]) hrec

theorem quorumSound_fillStep {s : State} (h : QuorumSound s) (hs : Running s) : QuorumSound s.fillStep := by
  have hready := ready_of_busy h (busy_of_running hs)
  have hsess : s.fillStep.seq.sess = s.seq.sess := by obtain ⟨-, he⟩ | ⟨-, he⟩ := s.fillStep_cases <;> rw [he] <;> simp
  refine quorumSound_of_same h ⟨?_, ?_, ⟨s.run.checkSent, ?_⟩, ?_, ?_⟩ ?_ ?_ ?_ ?_
  case refine_6 => obtain ⟨-, he⟩ | ⟨-, he⟩ := s.fillStep_cases <;> rw [he] <;> simpa using hready
  case refine_7 | refine_8 | refine_9 => rw [hsess]; exact id
  all_goals obtain ⟨-, he⟩ | ⟨-, he⟩ := s.fillStep_cases <;> rw [he] <;> simp

/-! ### Between the sessions (R130 to R133) -/

theorem successLog_succ (n : Nat) : successLog (n + 1) = successLog n ++ [(n, .success)] := by
  simp [successLog, List.range_succ]

/-- What a session's success leaves recorded while no error is kept. -/
theorem recordSuccess_log {s : State} (h : QuorumSound s) (hx : s.seq.sess = .sessionDone)
    (hr : s.seq.run = .runGU ∨ s.seq.run = .runGC) (hgc : s.run.firstGcErr = none) :
    s.recordSuccess.run.sessLog = successLog (s.run.orgIdx + 1) ∧
      s.recordSuccess.run.attests.length = s.run.orgIdx := by
  obtain ⟨⟨-, hgu, hgc'⟩, hlog, -⟩ := h
  have ha : s.seq.sess.active = true := by rw [hx]; rfl
  have hn : s.seq.sess ≠ .failed := by rw [hx]; decide
  obtain hr | hr := hr
  · obtain ⟨hrole, hidx⟩ := hgu ha hr
    simp only [LogFollows, hr] at hlog
    obtain ⟨-, hatt, hlog⟩ := hlog
    simp [State.recordSuccess, hrole, hidx, hatt, hlog hn, successLog]
  · obtain ⟨hrole, -⟩ := hgc' ha hr
    simp only [LogFollows, hr] at hlog
    obtain ⟨hlog, hatt⟩ := hlog hn hgc
    simp [State.recordSuccess, hrole, hlog, hatt, successLog_succ]

theorem sessionFits_startSession {t : State} (i : Nat) (hr : t.seq.run = .runGC) (h0 : 0 < i) (hn : i < t.cfg.nOrgs) :
    SessionFits (t.startSession .confirming i) := by
  refine ⟨nofun, fun _ h => ?_, fun _ _ => ⟨rfl, h0, hn⟩⟩
  cases hr.symm.trans h

theorem quorumSound_nextSession {s : State} (h : QuorumSound s) (hx : s.seq.sess = .sessionDone)
    (hr : s.seq.run = .runGU ∨ s.seq.run = .runGC) (hready : s.out.ready = false)
    (hlt : s.run.orgIdx + 1 < s.cfg.nOrgs) :
    QuorumSound ((s.recordSuccess.goRun .runGC).startSession .confirming (s.run.orgIdx + 1)) := by
  refine quorumSound_of_not_ready (sessionFits_startSession _ rfl (Nat.succ_pos _) hlt) ?_ hready
  intro _ hgc
  obtain ⟨hlog, hatt⟩ := recordSuccess_log h hx hr hgc
  exact ⟨hlog, congrArg (· + 1) hatt⟩

theorem quorumSound_validate {s : State} (h : QuorumSound s) (hx : s.seq.sess = .sessionDone)
    (hr : s.seq.run = .runGU ∨ s.seq.run = .runGC) (hready : s.out.ready = false)
    (hle : s.cfg.nOrgs ≤ s.run.orgIdx + 1) (hgc : s.run.firstGcErr = none) :
    QuorumSound
      { s.recordSuccess with
        seq := { s.seq with run := .valDecrypt, sess := .noSession, proc := .idle, phase := .start } } := by
  refine quorumSound_of_not_ready (sessionFits_noSession rfl) ?_ hready
  obtain ⟨hlog, hatt⟩ := recordSuccess_log h hx hr hgc
  refine ⟨hlog, ?_, hatt⟩
  have ha : s.seq.sess.active = true := by rw [hx]; rfl
  obtain ⟨-, hgu, hgc'⟩ := h.1
  change s.run.orgIdx + 1 = max 1 s.cfg.nOrgs
  obtain hr | hr := hr
  · obtain ⟨-, hidx⟩ := hgu ha hr
    omega
  · obtain ⟨-, -, hidx⟩ := hgc' ha hr
    omega

theorem quorumSound_failRun {s : State} (hready : s.out.ready = false) : QuorumSound s.failRun := by
  rw [State.failRun_eq]
  exact quorumSound_of_ended rfl rfl hready

theorem quorumSound_agreed {s : State} (h : LogFollows s) (hr : s.seq.run = .valCompare) {hd : ImageHeader}
    (hhdr : s.run.hdr = some hd) (hdig : s.run.digest = hd.hash)
    (hall : ∀ a ∈ s.run.attests, attestEq s.cfg.attestEnc s.run.digest a = true) : QuorumSound (s.readyToInstall hd) := by
  simp only [LogFollows, hr] at h
  obtain ⟨hsucc, hlen, hparsed⟩ := h
  obtain rfl : hd = parseHeader s.run.decImg := Option.some.inj (hhdr.symm.trans hparsed)
  exact ⟨sessionFits_noSession rfl, trivial, fun _ => ⟨rfl, rfl, hsucc, hlen, hparsed, hdig, hall, rfl, rfl⟩⟩

/-! ### Every step -/

/-- From place to place of the session, before the nonce check or past it. -/
theorem quorumSound_in_session {s t : State} (h : QuorumSound s) (hs : SameRecords s t) (hr : t.out.ready = false)
    (ha : s.seq.sess.active = true) (hx : s.seq.sess ≠ .failed)
    (hp : pastNonceCheck t.seq.sess = true → pastNonceCheck s.seq.sess = true) : QuorumSound t :=
  quorumSound_of_same h hs hr (fun hf => (hx hf).elim) (fun _ => ha) hp

theorem quorumSound_authenticated {s : State} (h : QuorumSound s) (ha : s.seq.sess = .awaitM3)
    (hready : s.out.ready = false) (a : Bytes) :
    QuorumSound (State.goSess .authenticated { s with ses := { s.ses with ok := true, attest := a } }) := by
  obtain ⟨⟨-, hgu, hgc⟩, hlog, -⟩ := h
  have hact : s.seq.sess.active = true := by rw [ha]; rfl
  refine quorumSound_of_not_ready ⟨fun _ => rfl, fun _ => hgu hact, fun _ => hgc hact⟩ ?_ hready
  have hn : s.seq.sess ≠ .failed := by rw [ha]; decide
  simp only [LogFollows, State.goSess_seq, State.goSess_run] at hlog ⊢
  generalize s.seq.run = r at hlog ⊢
  cases r with
  | runGU =>
    obtain ⟨hgc, hatt, hlog⟩ := hlog
    exact ⟨hgc, hatt, fun _ => hlog hn⟩
  | runGC => exact fun _ => hlog hn
  | _ => exact hlog

theorem quorumSound_restMove {s t : State} (hp : Placed s) (h : QuorumSound s) (hs : Running s)
    (hrest : resting s = true) (hm : RestMove s t) : QuorumSound t := by
  have hb := busy_of_running hs
  have hready := ready_of_busy h hb
  have hrun {x : SessState} (hx : s.seq.sess = x) (ha : x.active = true) := run_of_session hp hb (hx ▸ ha)
  have hplaced : Placed t := placed_restMove hp hs hrest hm
  have same {u : State} (hc : u.cfg = s.cfg) (hq : u.seq.run = s.seq.run) (hr : u.run = s.run)
      (hrole : u.ses.role = s.ses.role) (hok : u.ses.ok = s.ses.ok) : SameRecords s u := ⟨hc, hq, ⟨_, hr⟩, hrole, hok⟩
  cases hm with
  | raised hu c =>
    exact quorumSound_raise h hu.cfg hu.seq hu.run hu.role (by rw [hu.out, hready]) (run_of_session hp hb) c
  | checkSkipped hx | toM1 hx | toM3 hx | answered hx =>
    exact quorumSound_in_session h (same rfl rfl rfl rfl rfl) hready (by rw [hx]; rfl) (by rw [hx]; decide) nofun
  | checkSent hx b =>
    exact quorumSound_in_session h ⟨rfl, rfl, ⟨true, rfl⟩, rfl, rfl⟩ hready (by rw [hx]; rfl) (by rw [hx]; decide) nofun
  | acked hx | ended hx | imageDone hx | confirmed hx | toImage hx =>
    exact quorumSound_in_session h (same rfl rfl rfl rfl rfl) hready (by rw [hx]; rfl) (by rw [hx]; decide)
      fun _ => by rw [hx]; rfl
  | authenticated hx a => exact quorumSound_authenticated h hx hready a
  | sealedNothing hx key p n =>
    refine quorumSound_recordMove hplaced h (noSession_of_valHash hp hb) ?_ (recordMove_rsaReturn ?_ ?_ ?_ ?_ ?_ ?_ [])
    · simpa [nonceDrawn] using hready
    all_goals rfl
  | nextSession hx hlt => exact quorumSound_nextSession h hx (hrun hx rfl) hready hlt
  | validate hx hle hgc => exact quorumSound_validate h hx (hrun hx rfl) hready hle hgc
  | lastSessionFailed | failed => exact quorumSound_failRun hready
  | nextAfterFailure hx e hlt =>
    refine quorumSound_of_not_ready (sessionFits_startSession _ rfl (Nat.succ_pos _) hlt) ?_ hready
    exact fun _ hgc => Option.some_ne_none e hgc |>.elim
  | parsed hx hr hlen =>
    refine quorumSound_of_not_ready (sessionFits_noSession hx) ?_ hready
    have hlog := h.2.1
    simp only [LogFollows, hr] at hlog
    exact ⟨hlog, hlen, rfl⟩
  | agreed hx hr hhdr hdig hall => exact quorumSound_agreed h.2.1 hr hhdr hdig hall
  | _ =>
    refine quorumSound_of_same h (same ?_ ?_ ?_ ?_ ?_) ?_ ?_ ?_ ?_
    all_goals simp [hready, nonceDrawn]

theorem quorumSound_move {s t : State} (hp : Placed s) (h : QuorumSound s) (hm : Move s t) : QuorumSound t := by
  cases hm with
  | reset => exact quorumSound_of_ended rfl rfl rfl
  | port _ hb hm => exact quorumSound_portMove hp h hb hm
  | bus hs hi hm => exact quorumSound_busMove hp h hs hi hm
  | fill hs => exact quorumSound_fillStep h hs
  | rest hs hrest hm => exact quorumSound_restMove hp h hs hrest hm

/-- Settles O55: the session's success or failure is the one place where the records move, and the comparison of
validation the one where `ready_to_install` is set. -/
theorem quorumInvariantKept : Obligations.QuorumInvariantKept :=
  fun _ _ hp h hstep => quorumSound_move hp h (step_move (request_of_placed hp) hstep)

/-! ### What a state becomes -/

/-- Steps and changes of the environment keep the parameters, a placed state and its sound records. -/
theorem quorum_of_evolves {s t : State} (h : Evolves s t) (hp : Placed s) (hs : QuorumSound s) :
    t.cfg = s.cfg ∧ Placed t ∧ QuorumSound t := by
  induction h with
  | refl => exact ⟨rfl, hp, hs⟩
  | step _ hstep ih =>
    obtain ⟨hc, hpt, hst⟩ := ih
    exact ⟨(frame_move (step_move (request_of_placed hpt) hstep)).cfg.trans hc,
      sequencingInvariantKept _ _ hpt hstep, quorumInvariantKept _ _ hpt hst hstep⟩
  | environment e _ he ih =>
    obtain ⟨hc, hpt, hst⟩ := ih
    exact ⟨hc, placed_environment hpt he, hst⟩

/-- Settles O56: the quorum invariant holds of every state reached, and it says what `ready_to_install` stands for. -/
theorem readyMeansAgreement : Obligations.ReadyMeansAgreement := by
  intro s t hvalid hp hs hev hready
  obtain ⟨hc, -, -, -, hq⟩ := quorum_of_evolves hev hp hs
  obtain ⟨hb, hr, ⟨hlog, hidx, hatt⟩, hlen, -, hdig, hall, hhdr, hpay⟩ := hq hready
  have hn : t.run.orgIdx + 1 = s.cfg.nOrgs := by rw [hidx, hc, max_eq_right hvalid.2]
  exact ⟨hc, hb, hr, hn ▸ hlog, hatt ▸ hn, hlen, hdig, hhdr ▸ hdig.symm, hpay, hc ▸ hall⟩

/-- Settles O50: right after reset no engine procedure runs, no session is active and nothing is ready. -/
theorem invariantsHoldAtReset : Obligations.InvariantsHoldAtReset := by
  refine ⟨⟨rfl, nofun, fun _ => ⟨rfl, rfl, rfl⟩, nofun⟩, ⟨rfl, nofun⟩, ⟨rfl, nofun, nofun⟩,
    ⟨rfl, nofun, nofun, nofun, nofun, nofun⟩, ⟨rfl, covered_zero _, nofun, trivial⟩, ?_⟩
  exact quorumSound_of_ended rfl rfl rfl

end Sys2Proof.Proofs.Quorum
end

section
/-! PROOF. The starts of the commands (60_exceptions R147, 40_rsa section 4, 41_sha3 section 2), the filler draws of a
block, and reset (70_reset section 1). -/

namespace Sys2Proof.Proofs.CommandStarts
open Sys2Proof Sys2Proof.Machine Sys2Proof.Safety

/-! ### Acceptance and completion -/

/-- At rest, a completion writes the result and goes back to the beginning of no rule. -/
theorem complete_at_rest {u : State} (hx : u.seq.sess = .noSession) (hp : u.seq.proc = .idle)
    (hf : u.rsa.filling = false) (st : ResStatus) (d : Bytes) :
    u.complete st d =
      { u with
        port := { u.port with busy := false, resStatus := st, resData := d }
        seq := { u.seq with phase := .start } } := by
  rw [State.complete, ← hx, ← hp, ← hf]

theorem not_active_of_noSession {x : SessState} (h : x = .noSession) : x.active = false := by rw [h]; rfl

theorem ne_valDecrypt_of_not_active {r : RunState} (h : r.active = false) : r ≠ .valDecrypt := by
  rintro rfl
  cases h

/-- A raise in the acceptance step ends the command (log 17). -/
theorem raise_accept_at_rest {s : State} (hs : IdleReady s) (w : Word) (d : Bytes) (c : Cause) :
    (s.accept w d).raise c =
      { s with
        port := { busy := false, cmd := w, argData := d, resStatus := .fail, resData := [] }
        seq := { s.seq with phase := .start }
        err := ⟨some c, none, some (.run s.seq.run)⟩
        out := { s.out with ready := false }
        env := { s.env with program := s.env.program.tail } } := by
  obtain ⟨-, -, -, -, hx, hr, hp, hf⟩ := hs
  have ha := not_active_of_noSession hx
  have he : (s.accept w d).errRecOf c = ⟨some c, none, some (.run s.seq.run)⟩ := by
    simp [State.errRecOf, State.errOrg, State.stepPos, ha, hr]
  rw [State.raise_in_command (s := s.accept w d) c ha hr, he]
  refine (complete_at_rest ?_ ?_ ?_ _ _).trans rfl
  exacts [hx, hp, hf]

theorem segCount_eq_zero_iff (p : Bytes) : segCount p = 0 ↔ p = [] := by
  rw [← List.length_eq_zero_iff, segCount]
  omega

section
variable {s : State} (hb : s.port.busy = false) (hm : s.env.boot.met = true)
include hb hm

theorem exec_rsaEncrypt (key : KeySlot) : exec (.rsaEncrypt key) s =
    .next ((s.accept (Instr.rsaEncrypt key).word s.presentedData).encryptBegin s.presentedData key) :=
  by rw [exec, execRsaEncrypt, State.command_accepts hb hm]

theorem exec_rsaDecrypt (key : KeySlot) : exec (.rsaDecrypt key) s =
    .next ((s.accept (Instr.rsaDecrypt key).word s.presentedData).decryptBegin s.presentedData key) :=
  by rw [exec, execRsaDecrypt, State.command_accepts hb hm]

theorem exec_sha3Reset : exec .sha3Reset s =
    .next { s.accept Instr.sha3Reset.word s.presentedData with
      seq := { s.seq with proc := .shaWrReset, phase := .engine } } :=
  by
  rw [exec, execSha3Reset, State.command_accepts hb hm]
  rfl

theorem exec_sha3Hash (hex : Bool) : exec (.sha3Hash hex) s =
    .next ((s.accept (Instr.sha3Hash hex).word s.presentedData).hashBegin s.presentedData hex) :=
  by rw [exec, execSha3Hash, State.command_accepts hb hm]

theorem exec_protoRun : exec .protoRun s = .next (s.accept Instr.protoRun.word s.presentedData).startRun :=
  by rw [exec, execProtoRun, State.command_accepts hb hm]

end

/-! ### Encrypt and Decrypt up to their first primitive (R86, R87) -/

theorem encryptBegin_public {key : KeySlot} {p : Bytes} (hk : key ≠ .devicePrivate) (hp : p ≠ []) (s : State) :
    s.encryptBegin p key = (s.beginRsa .encrypt key p (segCount p)).startFilling := by
  have hn : segCount p ≠ 0 := fun h => hp ((segCount_eq_zero_iff p).1 h)
  rw [State.encryptBegin, if_neg hk, if_neg hn]

theorem encryptBegin_nothing {key : KeySlot} (hk : key ≠ .devicePrivate) (s : State) :
    s.encryptBegin [] key = (s.beginRsa .encrypt key [] 0).rsaReturn [] := by
  rw [State.encryptBegin, if_neg hk]
  rfl

theorem encryptBegin_private (p : Bytes) (s : State) : s.encryptBegin p .devicePrivate = s.raise .keySlotMisuse := rfl

theorem decryptBegin_blocks {c : Bytes} (h0 : c.length ≠ 0) (h64 : c.length % 64 = 0) (s : State) :
    s.decryptBegin c .devicePrivate =
      (s.beginRsa .decrypt .devicePrivate c (c.length / 64)).loadBlock (c.take 64) := by
  have hlen : ¬(c.length = 0 ∨ c.length % 64 ≠ 0) := by omega
  rw [State.decryptBegin, if_neg (by simp), if_neg hlen, cipherBlock]
  rfl

theorem decryptBegin_badLength {c : Bytes} (h : c.length = 0 ∨ c.length % 64 ≠ 0) (s : State) :
    s.decryptBegin c .devicePrivate = s.raise .badLength := by
  rw [State.decryptBegin, if_neg (by simp), if_pos h]

theorem decryptBegin_public {key : KeySlot} (hk : key ≠ .devicePrivate) (c : Bytes) (s : State) :
    s.decryptBegin c key = s.raise .keySlotMisuse := if_pos hk

/-! ### The filler of a block (R77) -/

/-- The next `n` filler bytes of a tape, from the free values past its end. -/
def fillerFrom : Nat → List Byte → Nat → Bytes
  | 0, _, _ => []
  | n + 1, tape, draws => nonZero (nextAnswer tape Config.freeFiller draws) :: fillerFrom n tape.tail (draws + 1)

theorem nonZero_ne (b : Byte) : nonZero b ≠ 0 := by
  unfold nonZero
  split
  · decide
  · assumption

theorem nonZero_of_ne {b : Byte} (h : b ≠ 0) : nonZero b = b := if_neg h

theorem length_fillerFrom (n : Nat) (tape : List Byte) (draws : Nat) : (fillerFrom n tape draws).length = n := by
  induction n generalizing tape draws with
  | zero => rfl
  | succ n ih => rw [fillerFrom, List.length_cons, ih]

theorem ne_zero_of_mem_fillerFrom {n : Nat} {tape : List Byte} {draws : Nat} {b : Byte}
    (h : b ∈ fillerFrom n tape draws) : b ≠ 0 := by
  induction n generalizing tape draws with
  | zero => cases h
  | succ n ih =>
    obtain rfl | h := List.mem_cons.1 h
    · exact nonZero_ne _
    · exact ih h

theorem fillerValid_fillerFrom (tape : List Byte) (draws : Nat) : FillerValid (fillerFrom 8 tape draws) :=
  ⟨length_fillerFrom .., fun _ => ne_zero_of_mem_fillerFrom⟩

/-- Non-zero bytes that stand on the tape are the ones drawn. -/
theorem fillerFrom_append {g : Bytes} (hg : ∀ b ∈ g, b ≠ 0) (rest : List Byte) (draws : Nat) :
    fillerFrom g.length (g ++ rest) draws = g := by
  induction g generalizing draws with
  | nil => rfl
  | cons b g ih =>
    obtain ⟨hb, hg⟩ := List.forall_mem_cons.1 hg
    rw [List.length_cons, fillerFrom, List.cons_append, nextAnswer, nonZero_of_ne hb, List.tail_cons, ih hg]

/-- The state in which the block under filler `f` is on its way to the core, `n` filler bytes drawn. -/
def filled (s : State) (f : Bytes) (n : Nat) : State :=
  { s with
    rsa := { s.rsa with inp := blockOfBytes (padBlock (segAt s.rsa.src s.rsa.k) f), filler := f, filling := false }
    seq := { s.seq with proc := .rsaWrData 0 }
    env := { s.env with filler := s.env.filler.drop n, draws := s.env.draws + n } }

/-- One more filler byte drawn. -/
def fillerDrawn (s : State) : State :=
  { s.tookFiller with rsa := { s.rsa with filler := s.rsa.filler ++ [s.fillerByte] } }

/-- The draws that a block's filler still wants, one a step. -/
theorem steps_filler (n : Nat) {s : State} (hs : Running s) (hp : s.seq.proc = .idle) (hf : s.rsa.filling = true)
    (hn : s.rsa.filler.length + (n + 1) = 8) :
    steps (n + 1) s = .next (filled s (s.rsa.filler ++ fillerFrom (n + 1) s.env.filler s.env.draws) (n + 1)) := by
  induction n generalizing s with
  | zero =>
    obtain ⟨hlt, -⟩ | ⟨-, he⟩ := s.fillStep_cases
    · omega
    · rw [steps_succ_next (step_filling hs hp hf), steps_zero, he, filled, List.drop_one]
      rfl
  | succ n ih =>
    obtain ⟨-, he⟩ | ⟨hle, -⟩ := s.fillStep_cases
    · have hn' : (fillerDrawn s).rsa.filler.length + (n + 1) = 8 := by simp [fillerDrawn]; omega
      have hd : s.env.draws + 1 + (n + 1) = s.env.draws + (n + 1 + 1) := by omega
      rw [steps_succ_next (step_filling hs hp hf), he]
      refine (ih (s := fillerDrawn s) hs hp hf hn').trans ?_
      simp only [filled, fillerDrawn, State.tookFiller, List.append_assoc, List.drop_tail, hd]
      rfl
    · omega

/-! ### The command starts -/

/-- Settles O9: `encryptBegin` by the plaintext and the slot; the eight draws by induction on what is still wanted. -/
theorem rsaEncryptStarts : Obligations.RsaEncryptStarts := by
  refine ⟨fun s key hb hm hk hd => ?_, fun s key hs hk hd => ?_, fun s hs => ?_, fun s hs hp hf hlen => ?_,
    fun s hs hp hf hnil => ?_⟩
  · rw [exec_rsaEncrypt hb hm, encryptBegin_public hk hd]
    rfl
  · obtain ⟨hb, hm, -, -, hx, hr, hp, hf⟩ := hs
    have he := State.rsaReturn_in_command (s := (s.accept (Instr.rsaEncrypt key).word []).beginRsa .encrypt key [] 0) []
      (not_active_of_noSession hx) (ne_valDecrypt_of_not_active hr)
    have hc := complete_at_rest (u := (s.accept (Instr.rsaEncrypt key).word []).beginRsa .encrypt key [] 0) hx hp rfl .ok []
    rw [exec_rsaEncrypt hb hm, hd, encryptBegin_nothing hk, he, hc]
    simp [State.beginRsa, State.accept, hf]
  · rw [exec_rsaEncrypt hs.1 hs.2.1, encryptBegin_private, raise_accept_at_rest hs]
    rfl
  · refine ⟨s.fillerByte, nonZero_ne _, fun c rest hc hne => ?_, ?_⟩
    · rw [State.fillerByte, hc, nextAnswer, nonZero_of_ne hne]
    · obtain ⟨-, he⟩ | ⟨hle, -⟩ := s.fillStep_cases
      · rw [step_filling hs hp hf, he]
        rfl
      · omega
  · refine ⟨fillerFrom 8 s.env.filler s.env.draws, fillerValid_fillerFrom _ _, fun g rest hg ht => ?_, ?_⟩
    · rw [ht, ← hg.1, fillerFrom_append hg.2]
    · rw [steps_filler 7 hs hp hf (by rw [hnil]; rfl), hnil]
      rfl

/-- Settles O10: `decryptBegin` by the slot and the length. -/
theorem rsaDecryptStarts : Obligations.RsaDecryptStarts := by
  refine ⟨fun s hb hm h0 h64 => ?_, fun s hs hlen => ?_, fun s key hs hk => ?_⟩
  · rw [exec_rsaDecrypt hb hm, decryptBegin_blocks h0 h64]
    rfl
  · rw [exec_rsaDecrypt hs.1 hs.2.1, decryptBegin_badLength hlen, raise_accept_at_rest hs]
  · rw [exec_rsaDecrypt hs.1 hs.2.1, decryptBegin_public hk, raise_accept_at_rest hs]

/-- Settles O12: the two acceptance steps, field by field. -/
theorem hashAndRunStart : Obligations.HashAndRunStart := by
  refine ⟨fun s hex hb hm => ?_, fun s hb hm => ?_⟩
  · rw [exec_sha3Hash hb hm]
    rfl
  · rw [exec_protoRun hb hm]
    rfl

/-- A presented command word runs its instruction. -/
theorem step_command {s : State} (hs : IdleReady s) {l : HostLine} {rest : List HostLine}
    (hp : s.env.program = l :: rest) {i : Instr} (hi : decode (.cmd l.word) = .ok i) : step s = exec i s := by
  obtain ⟨hb, -, hr, hq, -⟩ := hs
  rw [step_presented hr hq hb hp, runCode_ok hi]

/-- Settles O11: the acceptance leads to the reset write, and that write, under this command, completes it. -/
theorem sha3ResetCompletes : Obligations.Sha3ResetCompletes := by
  refine ⟨fun s hb hm => ?_, fun s l rest hs hprog hw => ?_⟩
  · rw [exec_sha3Reset hb hm]
    rfl
  · have hi : decode (.cmd l.word) = .ok .sha3Reset := by rw [hw]; decide
    have hd : s.presentedData = l.data := by rw [State.presentedData, hprog]
    have hstep := step_command hs hprog hi
    obtain ⟨hb, hm, hr, hq, hx, -, hp, hf⟩ := hs
    rw [exec_sha3Reset hb hm, hd] at hstep
    have hrun : Running { s.accept Instr.sha3Reset.word l.data with
        seq := { s.seq with proc := .shaWrReset, phase := .engine } } := ⟨rfl, hr, hq⟩
    rw [steps_succ_next hstep, steps_succ_next (step_proc hrun rfl), steps_zero]
    simp only [State.complete, State.accept, hprog, ← hx, ← hp, ← hf]
    rfl

/-! ### Reset (R165) -/

/-- Settles O8: `applyReset` and `State.reset`, register by register. -/
theorem resetTakesEveryRegister : Obligations.ResetTakesEveryRegister := by
  refine ⟨fun s h => ⟨_, step_reset h, ?_⟩, ?_⟩
  all_goals
    and_intros
    all_goals rfl

end Sys2Proof.Proofs.CommandStarts
end

section
/-! PROOF. The bus transactions (40_rsa section 5, 41_sha3 section 3): each access field by field, the bounded poll, and
the ends of a block and of a hash. -/

namespace Sys2Proof.Proofs.BusTransactions
open Sys2Proof Sys2Proof.Machine Sys2Proof.Safety
open Sys2Proof.Proofs.KeyselAndStatus Sys2Proof.Proofs.Moves Sys2Proof.Proofs.CommandStarts

/-! ### Data words and starts (R88, R90, R92, R105) -/

theorem nextIndex_of_lt {i : Fin 16} (h : i.val + 1 < 16) : nextIndex i = some ⟨i.val + 1, h⟩ := dif_pos h

theorem nextIndex_of_not_lt {i : Fin 16} (h : ¬i.val + 1 < 16) : nextIndex i = none := dif_neg h

theorem exec_rsaRdData_of_lt {i : Fin 16} (h : i.val + 1 < 16) (s : State) :
    exec (.rsaRdData i) s = .next ((readOut s i).goProc (.rsaRdData ⟨i.val + 1, h⟩)) := by
  rw [exec, execRsaRdData, nextIndex_of_lt h]
  rfl

theorem exec_rsaRdData_last (s : State) : exec (.rsaRdData 15) s = .next (readOut s 15).blockDone := rfl

/-- Settles O13: the next index exists below 15, and after it the key select follows. -/
theorem rsaDataWordsMove : Obligations.RsaDataWordsMove := by
  refine ⟨fun s i => ?_, fun s i h => ?_⟩
  · rw [exec, execRsaWrData]
    by_cases h : i.val + 1 < 16
    · rw [nextIndex_of_lt h, dif_pos h]
      rfl
    · rw [nextIndex_of_not_lt h, dif_neg h]
      rfl
  · rw [exec_rsaRdData_of_lt h]
    rfl

/-- Settles O15: the two start writes, field by field. -/
theorem startWritesStartTheCores : Obligations.StartWritesStartTheCores := ⟨fun _ => rfl, fun _ => rfl⟩

/-! ### The bounded poll (R82) -/

theorem exec_sha3RdReady (s : State) : exec .sha3RdReady s = .next (s.tookShaReady.shaPolled s.shaReadyWord) := rfl

/-- Settles O16: within the bound a poll ends at the done value and goes on at any other. -/
theorem pollReadsStatus : Obligations.PollReadsStatus := by
  refine ⟨fun s h => ?_, fun s h => ?_⟩
  · rw [exec_rsaRdStatus]
    obtain ⟨hw, he⟩ | ⟨hw, hle, -⟩ | ⟨hw, -, he⟩ := s.tookRsaStatus.rsaPolled_cases s.rsaStatusWord
    · rw [he, if_pos (by exact hw)]
      rfl
    · exact absurd (h.resolve_left hw) (Nat.not_lt.2 hle)
    · rw [he, if_neg (by exact hw)]
      rfl
  · rw [exec_sha3RdReady]
    obtain ⟨hw, he⟩ | ⟨hw, hle, -⟩ | ⟨hw, -, he⟩ := s.tookShaReady.shaPolled_cases s.shaReadyWord
    · rw [he, if_pos (by exact hw)]
      rfl
    · exact absurd (h.resolve_left hw) (Nat.not_lt.2 hle)
    · rw [he, if_neg (by exact hw)]
      rfl

theorem exec_rsaRdStatus_timeout {s : State} (hw : s.rsaStatusWord ≠ s.cfg.rsaDone)
    (hn : s.cfg.pollMax ≤ s.rsa.pollcnt + 1) :
    exec .rsaRdStatus s = .next (((rsaCounted s).setSuspect .rsa).raise (.hardwareTimeout .rsa)) := by
  rw [exec_rsaRdStatus]
  obtain ⟨hd, -⟩ | ⟨-, -, he⟩ | ⟨-, hlt, -⟩ := s.tookRsaStatus.rsaPolled_cases s.rsaStatusWord
  · exact absurd hd hw
  · rw [he]
    rfl
  · exact absurd hlt (Nat.not_lt.2 hn)

theorem exec_sha3RdReady_timeout {s : State} (hw : s.shaReadyWord ≠ s.cfg.shaReady)
    (hn : s.cfg.pollMax ≤ s.sha.pollcnt + 1) :
    exec .sha3RdReady s = .next (((shaCounted s).setSuspect .sha3).raise (.hardwareTimeout .sha3)) := by
  rw [exec_sha3RdReady]
  obtain ⟨hd, -⟩ | ⟨-, -, he⟩ | ⟨-, hlt, -⟩ := s.tookShaReady.shaPolled_cases s.shaReadyWord
  · exact absurd hd hw
  · rw [he]
    rfl
  · exact absurd hlt (Nat.not_lt.2 hn)

/-- Settles O17: the last read makes the core suspect and raises, which leaves windows, store and transport alone. -/
theorem pollTimeoutRaises : Obligations.PollTimeoutRaises := by
  refine ⟨fun s hw hn => ⟨_, exec_rsaRdStatus_timeout hw hn, ?_⟩, fun s hw hn => ⟨_, exec_sha3RdReady_timeout hw hn, ?_⟩⟩
  all_goals
    rw [State.raise_eq]
    refine ⟨rfl, rfl, rfl, rfl, fun ha => ?_, rfl, rfl, rfl, rfl⟩
    exact if_neg (by simpa [rsaCounted, shaCounted, State.setSuspect] using ha)

/-! ### The end of a block (R86, R87) -/

/-- The sixteen output words, as the bytes of the block. -/
def lastOut (s : State) : Bytes := unwords (blockSet s.rsa.out 15 (blockGet s.rsaWin.dout 15)).toList

/-- The header check lets a block pass. -/
def HeaderPasses (s : State) (o : Bytes) : Prop := s.cfg.hdrCheck = .off ∨ hdrOk o = true

theorem not_badHeader {s : State} {o : Bytes} (h : HeaderPasses s o) :
    ¬(s.cfg.hdrCheck = .strict ∧ hdrOk o = false) := by
  rintro ⟨hs, ho⟩
  obtain h | h := h
  · cases hs.symm.trans h
  · cases ho.symm.trans h

section
variable {s : State}

theorem exec_rsaRdData_badHeader (hop : s.rsa.op = .decrypt) (hs : s.cfg.hdrCheck = .strict)
    (ho : hdrOk (lastOut s) = false) :
    exec (.rsaRdData 15) s = .next ((readOut s 15).raise (.invalidPadding s.rsa.k)) := by
  rw [exec_rsaRdData_last, State.blockDone, (by exact hop : (readOut s 15).rsa.op = .decrypt)]
  exact congrArg _ (if_pos ⟨hs, ho⟩)

theorem exec_rsaRdData_decrypted (hop : s.rsa.op = .decrypt) (ho : HeaderPasses s (lastOut s))
    (hk : s.rsa.nblk ≤ s.rsa.k + 1) :
    exec (.rsaRdData 15) s = .next
      ((blockOut s 15 (s.rsa.acc ++ strip (payloadOf (lastOut s)))).rsaReturn
        (s.rsa.acc ++ strip (payloadOf (lastOut s)))) := by
  rw [exec_rsaRdData_last, State.blockDone, (by exact hop : (readOut s 15).rsa.op = .decrypt)]
  obtain ⟨hs, hb, -⟩ | ⟨-, -, he⟩ | ⟨-, hlt, -⟩ := (readOut s 15).decryptBlockDone_cases
  · exact absurd ⟨hs, hb⟩ (not_badHeader ho)
  · exact congrArg _ he
  · exact absurd hlt (Nat.not_lt.2 hk)

theorem exec_rsaRdData_nextCipher (hop : s.rsa.op = .decrypt) (ho : HeaderPasses s (lastOut s))
    (hk : s.rsa.k + 1 < s.rsa.nblk) :
    exec (.rsaRdData 15) s = .next
      ((blockOut s 15 (s.rsa.acc ++ payloadOf (lastOut s))).loadBlock (cipherBlock s.rsa.src (s.rsa.k + 1))) := by
  rw [exec_rsaRdData_last, State.blockDone, (by exact hop : (readOut s 15).rsa.op = .decrypt)]
  obtain ⟨hs, hb, -⟩ | ⟨-, hle, -⟩ | ⟨-, -, he⟩ := (readOut s 15).decryptBlockDone_cases
  · exact absurd ⟨hs, hb⟩ (not_badHeader ho)
  · exact absurd hk (Nat.not_lt.2 hle)
  · exact congrArg _ he

theorem exec_rsaRdData_encrypted (hop : s.rsa.op = .encrypt) (hk : s.rsa.nblk ≤ s.rsa.k + 1) :
    exec (.rsaRdData 15) s = .next ((blockOut s 15 (s.rsa.acc ++ lastOut s)).rsaReturn (s.rsa.acc ++ lastOut s)) := by
  rw [exec_rsaRdData_last, State.blockDone, (by exact hop : (readOut s 15).rsa.op = .encrypt)]
  obtain ⟨hlt, -⟩ | ⟨-, he⟩ := (readOut s 15).encryptBlockDone_cases
  · exact absurd hlt (Nat.not_lt.2 hk)
  · exact congrArg _ he

theorem exec_rsaRdData_nextFiller (hop : s.rsa.op = .encrypt) (hk : s.rsa.k + 1 < s.rsa.nblk) :
    exec (.rsaRdData 15) s = .next (blockOut s 15 (s.rsa.acc ++ lastOut s)).startFilling := by
  rw [exec_rsaRdData_last, State.blockDone, (by exact hop : (readOut s 15).rsa.op = .encrypt)]
  obtain ⟨-, he⟩ | ⟨hle, -⟩ := (readOut s 15).encryptBlockDone_cases
  · exact congrArg _ he
  · exact absurd hk (Nat.not_lt.2 hle)

end

/-- Settles O18: the header check, then the last block or the next one, and where the plaintext goes. -/
theorem decryptBlockEnds : Obligations.DecryptBlockEnds := by
  rintro s o pay hop rfl rfl
  refine ⟨fun hs ho => exec_rsaRdData_badHeader hop hs ho, fun ho hk => ?_, fun ho hk hx hr => ?_, fun ho hk hx => ?_,
    fun ho hk hx hr => ?_⟩
  · rw [exec_rsaRdData_nextCipher hop ho hk]
    rfl
  · rw [exec_rsaRdData_decrypted hop ho hk,
      State.rsaReturn_in_command (s := blockOut s 15 _) _ hx (ne_valDecrypt_of_not_active hr)]
    rfl
  · rw [exec_rsaRdData_decrypted hop ho hk, State.rsaReturn_in_session (s := blockOut s 15 _) _ hx,
      (by exact hop : (blockOut s 15 _).rsa.op = .decrypt)]
    rfl
  · rw [exec_rsaRdData_decrypted hop ho hk, State.rsaReturn_in_validation (s := blockOut s 15 _) _ hx hr]
    rfl

/-- Settles O19: the next block's filler, or where the ciphertext goes. -/
theorem encryptBlockEnds : Obligations.EncryptBlockEnds := by
  rintro s acc hop rfl
  refine ⟨fun hk => ?_, fun hk hx hr => ?_, fun hk hx => ?_⟩
  · rw [exec_rsaRdData_nextFiller hop hk]
    rfl
  · rw [exec_rsaRdData_encrypted hop hk,
      State.rsaReturn_in_command (s := blockOut s 15 _) _ hx (ne_valDecrypt_of_not_active hr)]
    rfl
  · rw [exec_rsaRdData_encrypted hop hk, State.rsaReturn_in_session (s := blockOut s 15 _) _ hx,
      (by exact hop : (blockOut s 15 _).rsa.op = .encrypt)]
    rfl

/-! ### The SHA3 window (R103, R104, R107) -/

theorem exec_sha3WrReset_in_hash {s : State} (hcmd : s.port.cmd ≠ Instr.sha3Reset.word) :
    exec .sha3WrReset s =
      .next (((s.winShaReset s.cfg.shaResetValue).setDirty false).goProc (.shaWrFifo s.sha.j)) := by
  rw [exec, execSha3WrReset, if_neg (by exact hcmd)]

theorem exec_sha3WrFifo (s : State) :
    exec .sha3WrFifo s = .next ((fifoWritten s).goProc
      (if s.sha.j + 1 < s.sha.msg.length / 4 then .shaWrFifo (s.sha.j + 1) else .shaWrStart)) := rfl

theorem getD_of_getElem? {l : Bytes} {i : Nat} {b d : Byte} (h : l[i]? = some b) : l.getD i d = b := by
  rw [List.getD_eq_getElem?_getD, h, Option.getD_some]

/-- Settles O20: the reset write in a hash, and the FIFO write of the word that four bytes of the message make. -/
theorem shaStreamWrites : Obligations.ShaStreamWrites := by
  refine ⟨fun s hcmd => ?_, fun s b0 b1 b2 b3 h0 h1 h2 h3 => ?_⟩
  · rw [exec_sha3WrReset_in_hash (by exact hcmd)]
    rfl
  · have hw : wordAt s.sha.msg s.sha.j = b0 ++ b1 ++ b2 ++ b3 := by
      rw [wordAt, getD_of_getElem? h0, getD_of_getElem? h1, getD_of_getElem? h2, getD_of_getElem? h3, be32]
    rw [exec_sha3WrFifo, fifoWritten, hw]
    rfl

theorem digestWord_of_lt {s : State} (h : s.shaWin.ptr < 16) : s.digestWord = s.shaWin.digest[s.shaWin.ptr] := dif_pos h

section
variable {s : State}

theorem exec_sha3RdDigest_next {k : Fin 16} (hk : (s.sha.dig ++ beBytes s.digestWord).length / 4 = k.val) :
    exec .sha3RdDigest s = .next ((digestRead s).goProc (.shaRdDigest k)) := by
  have hn : digestNext (s.sha.dig ++ beBytes s.digestWord).length = some k := by
    rw [digestNext, dif_pos (by omega)]
    exact congrArg some (Fin.ext hk)
  rw [exec, execSha3RdDigest, hn]
  rfl

theorem exec_sha3RdDigest_last (hk : (s.sha.dig ++ beBytes s.digestWord).length = 64) :
    exec .sha3RdDigest s = .next (digestRead s).hashDone := by
  rw [exec, execSha3RdDigest, hk]
  rfl

end

/-- Settles O21: the digest word at the pointer; a further read, or `hashDone`. -/
theorem sha3RdDigestReads : Obligations.Sha3RdDigestReads := by
  intro s h dig hdig
  rw [← digestWord_of_lt h] at hdig
  subst hdig
  refine ⟨fun hk => ?_, fun hlen hr => ?_, fun hlen hr => ?_⟩
  · rw [exec_sha3RdDigest_next (k := ⟨_, hk⟩) rfl]
    rfl
  · have hne : s.seq.run ≠ .valHash := fun he => by rw [he] at hr; cases hr
    rw [exec_sha3RdDigest_last hlen, State.hashDone, if_neg (by exact hne)]
    rfl
  · rw [exec_sha3RdDigest_last hlen, State.hashDone, if_pos (by exact hr)]
    rfl

end Sys2Proof.Proofs.BusTransactions
end

section
/-! PROOF. The message rows (42_protocol sections 1 and 2): sending, receiving a frame, and each message's rule. -/

namespace Sys2Proof.Proofs.MessageRows
open Sys2Proof Sys2Proof.Machine Sys2Proof.Safety
open Sys2Proof.Proofs.Moves Sys2Proof.Proofs.CommandStarts

/-! ### A guarded Send (R112, R116) -/

section
variable {s : State} (hc : s.env.cancel = false) (b : Bytes) (k : State → State)
include hc

theorem guarded_sendThen_sent (h : s.sendAnswer = .sent) : s.guarded (State.sendThen b k) = k (s.tookSend [b]) := by
  rw [State.guarded_of_not_cancel hc, State.sendThen_sent h]

theorem guarded_sendThen_closed (h : s.sendAnswer = .closed) :
    s.guarded (State.sendThen b k) = (s.tookSend []).raise .closed := by
  rw [State.guarded_of_not_cancel hc, State.sendThen, h]

theorem guarded_sendThen_timeout (h : s.sendAnswer = .timeout) :
    s.guarded (State.sendThen b k) = (s.tookSend []).raise .timeout := by
  rw [State.guarded_of_not_cancel hc, State.sendThen, h]

end

/-! ### A guarded Recv (R113, R116) -/

section
variable {s : State} (hc : s.env.cancel = false) (n : Nat) (k : Bytes → State → State)
include hc

theorem guarded_recvThen_data {b : Byte} {bs : Bytes} (h : s.recvAnswer = .data (b :: bs)) :
    s.guarded (State.recvThen n k) = k ((b :: bs).take n) (s.tookRecv ((b :: bs).drop n)) := by
  rw [State.guarded_of_not_cancel hc, State.recvThen, h]

theorem guarded_recvThen_closed (h : s.recvAnswer = .closed ∨ s.recvAnswer = .data []) :
    s.guarded (State.recvThen n k) = (s.tookRecv []).raise .closed := by
  obtain h | h := h <;> rw [State.guarded_of_not_cancel hc, State.recvThen, h]

theorem guarded_recvThen_timeout (h : s.recvAnswer = .timeout) :
    s.guarded (State.recvThen n k) = (s.tookRecv []).raise .timeout := by
  rw [State.guarded_of_not_cancel hc, State.recvThen, h]

end

/-! ### UpdateCheck and OK (R119, R128) -/

/-- The update check's body. -/
def checkBody (s : State) : Bytes := s.codec.serUpdateCheck ⟨s.cfg.fwVersion, s.cfg.deviceId⟩

/-- What follows the update check's Send. -/
def checkNoted (t : State) : State := State.goSess .checkSent { t with run := { t.run with checkSent := true } }

theorem exec_updateCheck {s : State} (h : s.run.checkSent = false) :
    exec .updateCheck s = .next (s.guarded (State.sendThen (frame s.codec (checkBody s)) checkNoted)) := by
  rw [exec, execUpdateCheck, if_neg (by rw [h]; decide)]
  rfl

/-- Settles O24: the Send's answers, and the run's note that it was sent. -/
theorem updateCheckSentOncePerRun : Obligations.UpdateCheckSentOncePerRun := by
  refine ⟨fun s h hc ha => ?_, fun s h hc => ?_, fun s h hc ha => ?_, fun s h hc ha => ?_, fun s h => ?_⟩
  · rw [exec_updateCheck h, guarded_sendThen_sent hc _ _ ha]
    rfl
  · rw [exec_updateCheck h, State.guarded_of_cancel hc]
  · rw [exec_updateCheck h, guarded_sendThen_closed hc _ _ ha]
  · rw [exec_updateCheck h, guarded_sendThen_timeout hc _ _ ha]
  · rw [exec, execUpdateCheck, if_pos h]
    rfl

theorem exec_ok (s : State) :
    exec .ok s = .next (s.guarded (State.sendThen okBytes fun t => t.goSess (okNext t.seq.sess))) := rfl

/-- Settles O30: the Send's answers, and where each of the two places goes on. -/
theorem okIsSentUnframed : Obligations.OkIsSentUnframed := by
  intro s after hplace
  have hnext : okNext s.seq.sess = after := by obtain ⟨hx, rfl⟩ | ⟨hx, rfl⟩ := hplace <;> rw [hx] <;> rfl
  refine ⟨fun hc => ?_, fun hc ha => ?_, fun hc ha => ?_, fun hc ha => ?_⟩
  · rw [exec_ok, State.guarded_of_cancel hc]
  · rw [exec_ok, guarded_sendThen_closed hc _ _ ha]
  · rw [exec_ok, guarded_sendThen_timeout hc _ _ ha]
  · rw [exec_ok, guarded_sendThen_sent hc _ _ ha, State.tookSend_seq, hnext]
    rfl

/-! ### Receiving a frame (R114, R115) -/

/-- What a piece of the frame does. -/
def framePiece (r : Bytes) (t : State) : State := { t with ses := { t.ses with rxBuf := t.ses.rxBuf ++ r } }

theorem exec_receiving {s : State} {i : Instr} (hi : i = .m1 ∨ i = .m3 ∨ i = .updateImage)
    (hf : s.frameReady = false) : exec i s = .next s.recvFrameStep := by
  obtain rfl | rfl | rfl := hi <;> exact congrArg _ (if_neg (by rw [hf]; decide))

theorem recvFrameStep_wanting {s : State} (h : s.ses.rxBuf.length < s.rxWant) :
    s.recvFrameStep = s.guarded (State.recvThen (s.rxWant - s.ses.rxBuf.length) framePiece) := if_pos h

theorem recvFrameStep_whole {s : State} (h : s.rxWant ≤ s.ses.rxBuf.length) : s.recvFrameStep = s.lenFieldDone :=
  if_neg (Nat.not_lt.2 h)

theorem lenFieldDone_bad {s : State} (h : s.codec.bodyLen s.ses.rxBuf = none) : s.lenFieldDone = s.raise .badPrefix := by
  rw [State.lenFieldDone, h]

theorem lenFieldDone_tooLong {s : State} {len : Nat} (h : s.codec.bodyLen s.ses.rxBuf = some len)
    (hl : ctrlRxMax < s.codec.pfxWidth + len) : s.lenFieldDone = s.raise .frameTooLong := by
  rw [State.lenFieldDone, h]
  exact if_pos hl

theorem lenFieldDone_body {s : State} {len : Nat} (h : s.codec.bodyLen s.ses.rxBuf = some len)
    (hl : s.codec.pfxWidth + len ≤ ctrlRxMax) :
    s.lenFieldDone = { s with ses := { s.ses with rx := .body len, rxBuf := [] } } := by
  rw [State.lenFieldDone, h]
  exact if_neg (Nat.not_lt.2 hl)

/-- Settles O25: one step of `RecvFrame`, by what is wanted, by the answer and by the length field. -/
theorem frameIsReceivedExactly : Obligations.FrameIsReceivedExactly := by
  intro s i hi hf
  rw [exec_receiving hi hf]
  refine ⟨fun hw hc => ?_, fun b bs hw hc ha => ?_, fun hw hc ha => ?_, fun hw hc ha => ?_, fun hw hn => ?_,
    fun len hw hn hl => ?_, fun len hw hn hl => ?_⟩
  · rw [recvFrameStep_wanting hw, State.guarded_of_cancel hc]
  · rw [recvFrameStep_wanting hw, guarded_recvThen_data hc _ _ ha]
    have hlen : (s.ses.rxBuf ++ (b :: bs).take (s.rxWant - s.ses.rxBuf.length)).length =
        s.ses.rxBuf.length + min (s.rxWant - s.ses.rxBuf.length) (bs.length + 1) := by simp
    refine ⟨_, rfl, rfl, ?_, ?_, rfl, rfl, rfl, rfl, rfl⟩
    · exact hlen ▸ by omega
    · exact hlen ▸ by omega
  · rw [recvFrameStep_wanting hw, guarded_recvThen_closed hc _ _ ha]
  · rw [recvFrameStep_wanting hw, guarded_recvThen_timeout hc _ _ ha]
  · rw [recvFrameStep_whole hw, lenFieldDone_bad hn]
  · rw [recvFrameStep_whole hw, lenFieldDone_tooLong hn hl]
  · rw [recvFrameStep_whole hw, lenFieldDone_body hn hl]

/-! ### M1 and M3 (R121, R124) -/

theorem openBody_bad {par : Bytes → Option Bytes} {b : Bytes} (h : par b = none) (bad : Cause) (s : State) :
    s.openBody par bad b = s.raise bad := by rw [State.openBody, h]

theorem openBody_body {par : Bytes → Option Bytes} {b ct : Bytes} (h : par b = some ct) (bad : Cause) (s : State) :
    s.openBody par bad b = s.guarded (State.decryptBegin ct .devicePrivate) := by rw [State.openBody, h]

theorem exec_ciphertext {s : State} {i : Instr} {par : Bytes → Option Bytes} {bad : Cause}
    (hi : (i = .m1 ∧ par = s.codec.parM1 ∧ bad = .m1) ∨ (i = .m3 ∧ par = s.codec.parM3 ∧ bad = .m3))
    (hf : s.frameReady = true) : exec i s = .next (s.rxClear.openBody par bad s.ses.rxBuf) := by
  obtain ⟨rfl, rfl, rfl⟩ | ⟨rfl, rfl, rfl⟩ := hi <;> exact congrArg _ (State.onFrame_ready hf)

/-- Settles O26: the body's parse, the cancel check, the length. -/
theorem ciphertextMessagesOpen : Obligations.CiphertextMessagesOpen := by
  intro s i par bad hi hf
  rw [exec_ciphertext hi hf]
  refine ⟨fun h => ?_, fun ct h hc => ?_, fun ct h hc hlen => ?_, fun ct h hc h0 h64 => ?_⟩
  · rw [openBody_bad h]
  · rw [openBody_body h, State.guarded_of_cancel (s := s.rxClear) hc]
  · rw [openBody_body h, State.guarded_of_not_cancel (s := s.rxClear) hc, decryptBegin_badLength hlen]
  · rw [openBody_body h, State.guarded_of_not_cancel (s := s.rxClear) hc, decryptBegin_blocks h0 h64]
    rfl

/-! ### The challenge (R121 to R123) -/

theorem exec_deviceChallenge (s : State) :
    exec .deviceChallenge s = .next ((nonceDrawn s).guarded (State.encryptBegin
      (s.codec.serDeviceChallenge ⟨s.cfg.deviceId, s.ses.ng, s.nonceWord⟩) (publicSlot s.ses.role))) := rfl

theorem exec_m2 (s : State) : exec .m2 s = .next
    (s.guarded (State.sendThen (frame s.codec (s.codec.serM2 s.ses.held)) (State.goSess .challengeSent))) := rfl

/-- Settles O27: the parse of the challenge, the nonce and its encryption, the Send's answers. -/
theorem challengeIsAnswered : Obligations.ChallengeIsAnswered := by
  refine ⟨fun s ng h => ?_, fun s h => ?_, fun s w ws h => ?_, fun s dc hc hdc hne => ?_, fun s hc => ?_,
    fun s hc => ?_, fun s hc ha => ?_, fun s hc ha => ?_, fun s hc ha => ?_⟩
  · rw [exec, execOrgChallenge, h]
    rfl
  · rw [exec, execOrgChallenge, h]
  · rw [State.nonceWord, h, nextAnswer]
  · rw [exec_deviceChallenge, State.guarded_of_not_cancel (s := nonceDrawn s) hc, ← hdc,
      encryptBegin_public (publicSlot_ne _) hne]
    cases s.ses.role <;> rfl
  · rw [exec_deviceChallenge, State.guarded_of_cancel (s := nonceDrawn s) hc]
    rfl
  · rw [exec_m2, State.guarded_of_cancel hc]
  · rw [exec_m2, guarded_sendThen_closed hc _ _ ha]
  · rw [exec_m2, guarded_sendThen_timeout hc _ _ ha]
  · rw [exec_m2, guarded_sendThen_sent hc _ _ ha]
    rfl

/-- Settles O28: the parse, the nonce check, and at a match the attestation by the role. -/
theorem orgResponseAuthenticates : Obligations.OrgResponseAuthenticates := by
  refine ⟨fun s r h hn => ?_, fun s r h hn hx => ?_, fun s h => ?_⟩
  · rw [exec, execOrgResponse, h]
    dsimp only
    rw [if_neg (not_not.2 hn)]
    cases s.ses.role <;> rfl
  · rw [exec, execOrgResponse, h]
    dsimp only
    have ha : s.seq.sess.active = true := by rw [hx]; rfl
    rw [if_pos hn, State.raise_in_session _ ha, State.errRecOf, State.stepPos, if_pos ha, hx]
  · rw [exec, execOrgResponse, h]

/-! ### The image (R126, R127) -/

/-- Settles O29: the parse of the size and its bound. -/
theorem updateImageSizeChecked : Obligations.UpdateImageSizeChecked := by
  intro s hf
  rw [exec, execUpdateImage, State.onFrame_ready hf]
  refine ⟨fun size h hle => ?_, fun size h hlt => ?_, fun h => ?_⟩
  · rw [h]
    exact congrArg _ (if_neg (Nat.not_lt.2 hle))
  · rw [h]
    exact congrArg _ (if_pos hlt)
  · rw [h]

/-- What the bytes of an image chunk do. -/
def chunkHeld (r : Bytes) (t : State) : State := State.goPhase .chunk { t with ses := { t.ses with held := r } }

theorem exec_imageData_recv {s : State} (hp : s.seq.phase ≠ .chunk) (hlt : s.ses.imgRcvd < s.ses.imgSize.toNat) :
    exec .imageData s = .next
      (s.guarded (State.recvThen (min imgChunk (s.ses.imgSize.toNat - s.ses.imgRcvd)) chunkHeld)) := by
  rw [exec, execImageData, if_neg hp, if_pos hlt]
  rfl

theorem exec_imageData_stage {s : State} (hp : s.seq.phase = .chunk)
    (hle : s.ses.imgRcvd + s.ses.held.length ≤ s.cfg.stageCap) :
    exec .imageData s = .next (State.goPhase .start
      { s.stageWrite s.ses.imgRcvd s.ses.held with
        ses := { s.ses with imgRcvd := s.ses.imgRcvd + s.ses.held.length, held := [] } }) := by
  rw [exec, execImageData, if_pos hp, State.stageChunk, if_pos (by exact decide_eq_true hle)]

/-- Settles O31: the Recv's answers; the staging, by the laws of the store; the loop's end. -/
theorem imageDataReceivesAndStages : Obligations.ImageDataReceivesAndStages := by
  refine ⟨fun s b bs hp hlt hc ha => ?_, fun s hp hlt hc => ?_, fun s hp hlt hc ha => ?_, fun s hp hlt hc ha => ?_,
    fun s hp hle => ?_, fun s hp hle => ?_⟩
  · rw [exec_imageData_recv hp hlt, guarded_recvThen_data hc _ _ ha]
    have hlen : ((b :: bs).take (min imgChunk (s.ses.imgSize.toNat - s.ses.imgRcvd))).length =
        min (min 4096 (s.ses.imgSize.toNat - s.ses.imgRcvd)) (bs.length + 1) := by simp [imgChunk]
    refine ⟨_, rfl, rfl, rfl, rfl, rfl, rfl, ?_⟩
    change 0 < ((b :: bs).take _).length ∧ ((b :: bs).take _).length ≤ 4096 ∧ s.ses.imgRcvd + ((b :: bs).take _).length ≤ _
    rw [hlen]
    omega
  · rw [exec_imageData_recv hp hlt, State.guarded_of_cancel hc]
    exact ⟨_, rfl, rfl, by simp, by simp⟩
  · rw [exec_imageData_recv hp hlt, guarded_recvThen_closed hc _ _ ha]
    exact ⟨_, rfl, rfl, by simp, by simp⟩
  · rw [exec_imageData_recv hp hlt, guarded_recvThen_timeout hc _ _ ha]
    exact ⟨_, rfl, rfl, by simp, by simp⟩
  · rw [exec_imageData_stage hp hle]
    exact ⟨_, rfl, fun i h => Memory.load_storeBytes_inside _ _ _ _ h, fun a ha => Memory.load_storeBytes_outside _ _ _ _ ha,
      Memory.wf_storeBytes _ _ _⟩
  · rw [exec, execImageData, if_neg hp, if_neg (Nat.not_lt.2 hle)]
    rfl

end Sys2Proof.Proofs.MessageRows
end

section
/-! PROOF. The raise (60_exceptions section 2), the run between its sessions (42_protocol R130 to R133) and validation up
to the hash (R134 to R136). -/

namespace Sys2Proof.Proofs.RunAndValidation
open Sys2Proof Sys2Proof.Machine Sys2Proof.Safety
open Sys2Proof.Proofs.SilentSteps Sys2Proof.Proofs.Moves Sys2Proof.Proofs.CommandStarts

/-! ### The raise (R150) -/

theorem kind_eq (e : ErrRec) : e.kind = match e.cause with
    | none => .none
    | some c => c.kind := by
  cases h : e.cause <;> simp only [ErrRec.kind, h]

/-- Settles O37: the raise field by field, and the tables of codes. -/
theorem raiseIsPrecise : Obligations.RaiseIsPrecise := by
  refine ⟨⟨kind_eq, rfl, rfl, fun _ _ => rfl, fun _ => rfl⟩, fun s c => ?_⟩
  refine ⟨by rw [State.raise_err]; rfl, by simp, by simp, fun ha => ?_, fun ha => ?_, by simp, by simp, by simp, by simp,
    by simp, by simp, by simp, by simp, by simp, by simp⟩
  · simp [ha]
  · simp [ha]

/-! ### SessionDone (R130) -/

section
variable {s : State} (hs : Running s) (hrest : resting s = true)
include hs hrest

theorem step_sessionDone (hx : s.seq.sess = .sessionDone) : step s = .next s.sessionDoneStep := by
  rw [step_of_no_message hs hrest (by rw [hx]; rfl)]
  simp [State.silentStep, busy_of_running hs, filling_of_resting hrest, hx]

theorem step_failed (hx : s.seq.sess = .failed) : step s = .next s.failedStep := by
  rw [step_of_no_message hs hrest (by rw [hx]; rfl)]
  simp [State.silentStep, busy_of_running hs, filling_of_resting hrest, hx]

end

theorem recordSuccess_attests (s : State) : s.recordSuccess.run.attests =
    if s.ses.role = .confirming then s.run.attests ++ [s.ses.attest] else s.run.attests := by
  cases h : s.ses.role <;> simp [State.recordSuccess, h]

theorem recordSuccess_imgLen (s : State) : s.recordSuccess.run.imgLen =
    if s.ses.role = .updating then s.ses.imgSize else s.run.imgLen := by
  cases h : s.ses.role <;> simp [State.recordSuccess, h]

/-- Settles O33: what is recorded, and the three ways on: the next organization, validation, the kept error. -/
theorem sessionDoneRecords : Obligations.SessionDoneRecords := by
  intro s hs hrest hx
  refine ⟨_, step_sessionDone hs hrest hx, ?_⟩
  rw [State.sessionDoneStep]
  obtain ⟨hlt, he⟩ | ⟨e, hle, hgc, he⟩ | ⟨hle, hgc, he⟩ := s.recordSuccess.nextOrg_cases <;> rw [he]
  · refine ⟨rfl, recordSuccess_attests s, recordSuccess_imgLen s, rfl, rfl, rfl, rfl,
      fun _ => ⟨rfl, rfl, rfl, rfl, rfl, rfl, rfl, rfl⟩, fun hle => ?_, fun _ hle => ?_⟩
    all_goals exact absurd hlt (Nat.not_lt.2 hle)
  · refine ⟨rfl, recordSuccess_attests s, recordSuccess_imgLen s, rfl, rfl, rfl, rfl, fun hlt => ?_, fun _ hn => ?_,
      fun e' _ he' => ⟨rfl, ?_, rfl⟩⟩
    · exact absurd hlt (Nat.not_lt.2 hle)
    · cases hn.symm.trans hgc
    · rw [State.failRun_eq]
      exact congrArg (·.getD s.err) he'
  · refine ⟨rfl, recordSuccess_attests s, recordSuccess_imgLen s, rfl, rfl, rfl, rfl, fun hlt => ?_, fun _ _ => ⟨rfl, rfl⟩,
      fun e' _ he' => ?_⟩
    · exact absurd hlt (Nat.not_lt.2 hle)
    · cases he'.symm.trans hgc

/-! ### Failed (R131 to R133) -/

theorem kind_eq_transportFailure_iff (e : ErrRec) :
    e.kind = .transportFailure ↔ e.cause = some .closed ∨ e.cause = some .timeout := by
  rw [kind_eq]
  cases e.cause with
  | none => simp
  | some c => cases c <;> simp [Cause.kind]

/-- At rest, the end of a failed run writes the result and the run state alone. -/
theorem failRun_of_resting {s : State} (hrest : resting s = true) :
    s.failRun =
      { s with
        port := { s.port with busy := false, resStatus := .fail, resData := [] }
        err := s.run.firstGcErr.getD s.err
        seq := { run := .runFailed, sess := .noSession, proc := .idle, phase := .start } } := by
  rw [State.failRun_eq, clear_filling_of_resting hrest]

/-- The run goes on after a confirming session's failure, with the first error kept (R132, R151). -/
theorem failedStep_goOn {s : State} (hr : s.seq.run = .runGC) (hc : s.cfg.confirmFail = .goOn)
    (hk : s.err.kind ≠ .transportFailure) :
    s.failedStep =
      State.nextOrg { s with run := { s.run with firstGcErr := some (s.run.firstGcErr.getD s.err) } } := by
  rw [State.failedStep, if_pos ⟨hr, hc, hk⟩, keepFirst_eq_some]

/-- Settles O34: whose failure ends the run, and under Continue the next session or the end with the kept error. -/
theorem failedSessionDecides : Obligations.FailedSessionDecides := by
  intro s hs hrest hx
  rw [step_failed hs hrest hx]
  refine ⟨kind_eq_transportFailure_iff _, fun hend => ?_, fun hr hc hk hlt => ?_, fun hr hc hk hle => ?_⟩
  · have hn : ¬(s.seq.run = .runGC ∧ s.cfg.confirmFail = .goOn ∧ s.err.kind ≠ .transportFailure) := by
      rintro ⟨hr, hc, hk⟩
      obtain h | h | h := hend
      · cases hr.symm.trans h
      · cases hc.symm.trans h
      · exact hk h
    rw [State.failedStep, if_neg hn, failRun_of_resting hrest]
  · rw [failedStep_goOn hr hc hk, State.nextOrg, if_pos (by exact hlt)]
    exact ⟨_, rfl, rfl, rfl, rfl, rfl, rfl, rfl, rfl, rfl, rfl⟩
  · rw [failedStep_goOn hr hc hk, State.nextOrg, if_neg (by exact Nat.not_lt.2 hle)]
    exact ⟨_, rfl, rfl, rfl, rfl, rfl, rfl, rfl, rfl⟩

/-! ### Validation (R134 to R136) -/

/-- A byte string that stands in the store, byte by byte, is what a read of its offsets gives. -/
theorem loadBytes_of_load (m : List Host.Cell) (bs : Bytes) (a : Nat)
    (h : ∀ i (hi : i < bs.length), Memory.load m (a + i) = some bs[i]) : Memory.loadBytes m a bs.length = some bs := by
  induction bs generalizing a with
  | nil => rfl
  | cons b bs ih =>
    have hb : Memory.load m a = some b := h 0 (Nat.zero_lt_succ _)
    have hbs := ih (a + 1) fun i hi => by
      rw [Nat.add_assoc, Nat.add_comm 1]
      exact h (i + 1) (Nat.succ_lt_succ hi)
    rw [List.length_cons, Memory.loadBytes, hb, hbs]

section
variable {s : State} (hs : Running s) (hrest : resting s = true) (hx : s.seq.sess = .noSession)
include hs hrest hx

theorem step_valDecrypt (hr : s.seq.run = .valDecrypt) {img : Bytes} (hlen : img.length = s.run.imgLen.toNat)
    (himg : ∀ i (h : i < img.length), s.stageByte i = some img[i]) :
    step s = .next (s.decryptBegin img .devicePrivate) := by
  have hread : s.stageRead 0 s.run.imgLen.toNat = some img := by
    rw [← hlen]
    refine loadBytes_of_load _ _ _ fun i hi => ?_
    rw [Nat.zero_add]
    exact himg i hi
  rw [step_noSession hs hrest hx, State.runSilentStep, hr]
  dsimp only
  rw [State.valDecryptStep, hread]

theorem step_valParse (hr : s.seq.run = .valParse) : step s = .next s.valParseStep := by
  rw [step_noSession hs hrest hx, State.runSilentStep, hr]

theorem step_valHash (hr : s.seq.run = .valHash) : step s = .next s.valHashStep := by
  rw [step_noSession hs hrest hx, State.runSilentStep, hr]

end

theorem take_append_drop_add {α : Type} (l : List α) (a b : Nat) : (l.drop a).take b ++ l.drop (a + b) = l.drop a := by
  rw [← List.drop_drop, List.take_append_drop]

/-- The header's fields and the payload are the image, in order (R135). -/
theorem parseHeader_append_imagePayload {img : Bytes} (h : 77 ≤ img.length) :
    img = [(parseHeader img).lenByte] ++ (parseHeader img).sizeA ++ (parseHeader img).sizeB ++ (parseHeader img).sizeC ++
      (parseHeader img).hash ++ imagePayload img := by
  have h0 : [img.getD 0 0] ++ img.drop 1 = img := by
    cases img
    · cases h
    · rfl
  have h1 : (img.drop 1).take 4 ++ img.drop 5 = img.drop 1 := take_append_drop_add img 1 4
  have h5 : (img.drop 5).take 4 ++ img.drop 9 = img.drop 5 := take_append_drop_add img 5 4
  have h9 : (img.drop 9).take 4 ++ img.drop 13 = img.drop 9 := take_append_drop_add img 9 4
  have h13 : (img.drop 13).take 64 ++ img.drop 77 = img.drop 13 := take_append_drop_add img 13 64
  simp only [parseHeader, imagePayload, imgHdrLen, List.append_assoc, h13, h9, h5, h1, h0]

/-- Settles O35: the three steps, each at its run state. -/
theorem validationDecryptsParsesHashes : Obligations.ValidationDecryptsParsesHashes := by
  refine ⟨fun s img hs hrest hx hr hlen himg h0 h64 => ?_, fun s img hs hrest hx hr hlen himg hbad => ?_,
    fun s hs hrest hx hr hlen => ?_, fun s hs hrest hx hr hlen => ?_, fun s hs hrest hx hr => ?_⟩
  · rw [step_valDecrypt hs hrest hx hr hlen himg, decryptBegin_blocks h0 h64]
    rfl
  · have ha := not_active_of_noSession hx
    have hact : s.seq.run.active = true := by rw [hr]; rfl
    rw [step_valDecrypt hs hrest hx hr hlen himg, decryptBegin_badLength hbad, State.raise_in_validation _ ha hact,
      State.complete, State.errRecOf, State.errOrg, State.stepPos, if_pos hact, ha]
    simp [clear_filling_of_resting hrest, hr]
  · refine ⟨parseHeader s.run.decImg, ?_, parseHeader_append_imagePayload hlen, ?_, ?_, ?_, ?_⟩
    · rw [step_valParse hs hrest hx hr, State.valParseStep, if_neg (by exact Nat.not_lt.2 hlen)]
      rfl
    all_goals
      simp only [parseHeader, List.length_take, List.length_drop]
      omega
  · rw [step_valParse hs hrest hx hr, State.valParseStep, if_pos (by exact hlen)]
  · rw [step_valHash hs hrest hx hr]
    rfl

end Sys2Proof.Proofs.RunAndValidation
end

section
/-! PROOF. What a step does not look at (10_state sections 2 and 5, 60_exceptions section 3): the suspect bits, and, where
no command is presented or no session rule runs, the host's program and the cancel input. Each operation of the machine
commutes with a change of these fields. -/

namespace Sys2Proof.Proofs.Overlays
open Sys2Proof Sys2Proof.Machine Sys2Proof.Safety
open Sys2Proof.Proofs.Moves Sys2Proof.Proofs.Frames Sys2Proof.Proofs.CommandStarts

/-- A change of the host's program and the cancel input, and suspect bits to be set. -/
structure Veil where
  program : List HostLine → List HostLine
  cancel : Bool → Bool
  suspectRsa : Bool
  suspectSha : Bool

/-- A state under a change of its veiled fields. -/
def overlay (v : Veil) (s : State) : State :=
  { s with
    book := { s.book with
      suspectRsa := s.book.suspectRsa || v.suspectRsa, suspectSha := s.book.suspectSha || v.suspectSha }
    env := { s.env with program := v.program s.env.program, cancel := v.cancel s.env.cancel } }

/-- An outcome under the change. -/
def overlayOutcome (v : Veil) : Host.Outcome State Fault Refusal → Host.Outcome State Fault Refusal
  | .next t => .next (overlay v t)
  | .fault f => .fault f
  | .refused r => .refused r

variable {v : Veil}

/-! ### The operations of a step

An operation without a branch commutes by `rfl`; below are the operations that branch or that run a continuation. -/

theorem overlay_ite {t u t' u' : State} {c : Prop} {_ : Decidable c} (ht : t' = overlay v t) (hu : u' = overlay v u) :
    (if c then t' else u') = overlay v (if c then t else u) := by
  split
  · exact ht
  · exact hu

theorem raise_overlay (c : Cause) (s : State) : (overlay v s).raise c = overlay v (s.raise c) :=
  overlay_ite rfl (overlay_ite rfl rfl)

theorem guarded_overlay (hv : v.cancel = id) {k k' : State → State} {s : State}
    (hk : k' (overlay v s) = overlay v (k s)) : (overlay v s).guarded k' = overlay v (s.guarded k) := by
  have hc : (overlay v s).env.cancel = s.env.cancel := by
    change v.cancel s.env.cancel = _
    rw [hv, id]
  rw [State.guarded, State.guarded, hc]
  exact overlay_ite (raise_overlay _ s) hk

theorem sendThen_overlay {b : Bytes} {k : State → State} {s : State} (hk : ∀ t, k (overlay v t) = overlay v (k t)) :
    (overlay v s).sendThen b k = overlay v (s.sendThen b k) := by
  obtain ⟨ha, he⟩ | ⟨ha, he⟩ | ⟨ha, he⟩ := s.sendThen_cases b k <;> rw [he]
  · exact (State.sendThen_sent (s := overlay v s) ha).trans (hk (s.tookSend [b]))
  all_goals
    have ha' : (overlay v s).sendAnswer = s.sendAnswer := rfl
    rw [State.sendThen, ha', ha]
    exact raise_overlay _ (s.tookSend [])

theorem recvThen_overlay {n : Nat} {k : Bytes → State → State} {s : State}
    (hk : ∀ r t, k r (overlay v t) = overlay v (k r t)) :
    (overlay v s).recvThen n k = overlay v (s.recvThen n k) := by
  have ha : (overlay v s).recvAnswer = s.recvAnswer := rfl
  rw [State.recvThen, State.recvThen, ha]
  split
  · exact raise_overlay _ (s.tookRecv [])
  · exact hk _ (s.tookRecv _)
  · exact raise_overlay _ (s.tookRecv [])
  · exact raise_overlay _ (s.tookRecv [])

/-! ### The engine procedures -/

theorem rsaReturn_overlay (out : Bytes) (s : State) : (overlay v s).rsaReturn out = overlay v (s.rsaReturn out) :=
  overlay_ite rfl (overlay_ite rfl rfl)

theorem fillStep_overlay (s : State) : (overlay v s).fillStep = overlay v s.fillStep := overlay_ite rfl rfl

theorem encryptBegin_overlay (p : Bytes) (key : KeySlot) (s : State) :
    (overlay v s).encryptBegin p key = overlay v (s.encryptBegin p key) :=
  overlay_ite (raise_overlay _ s)
    (overlay_ite (rsaReturn_overlay _ (s.beginRsa .encrypt key p (segCount p))) rfl)

theorem decryptBegin_overlay (c : Bytes) (key : KeySlot) (s : State) :
    (overlay v s).decryptBegin c key = overlay v (s.decryptBegin c key) :=
  overlay_ite (raise_overlay _ s) (overlay_ite (raise_overlay _ s) rfl)

theorem encryptBlockDone_overlay (s : State) : (overlay v s).encryptBlockDone = overlay v s.encryptBlockDone :=
  overlay_ite rfl (rsaReturn_overlay _ { s with rsa := { s.rsa with
    acc := s.rsa.acc ++ unwords s.rsa.out.toList, k := s.rsa.k + 1 } })

theorem decryptBlockDone_overlay (s : State) : (overlay v s).decryptBlockDone = overlay v s.decryptBlockDone :=
  overlay_ite (raise_overlay _ s) (overlay_ite (rsaReturn_overlay _ { s with rsa := { s.rsa with
    acc := s.rsa.acc ++ (if s.rsa.nblk ≤ s.rsa.k + 1 then strip (payloadOf (unwords s.rsa.out.toList))
      else payloadOf (unwords s.rsa.out.toList))
    k := s.rsa.k + 1 } }) rfl)

theorem blockDone_overlay (s : State) : (overlay v s).blockDone = overlay v s.blockDone := by
  have hop : (overlay v s).rsa.op = s.rsa.op := rfl
  rw [State.blockDone, State.blockDone, hop]
  cases s.rsa.op with
  | encrypt => exact encryptBlockDone_overlay s
  | decrypt => exact decryptBlockDone_overlay s

theorem rsaPolled_overlay (w : Word) (s : State) : (overlay v s).rsaPolled w = overlay v (s.rsaPolled w) :=
  overlay_ite rfl (overlay_ite (raise_overlay _ (State.setSuspect .rsa
    { s with rsa := { s.rsa with pollcnt := s.rsa.pollcnt + 1 } })) rfl)

theorem shaPolled_overlay (w : Word) (s : State) : (overlay v s).shaPolled w = overlay v (s.shaPolled w) :=
  overlay_ite rfl (overlay_ite (raise_overlay _ (State.setSuspect .sha3
    { s with sha := { s.sha with pollcnt := s.sha.pollcnt + 1 } })) rfl)

theorem hashDone_overlay (s : State) : (overlay v s).hashDone = overlay v s.hashDone := overlay_ite rfl rfl

/-! ### Sessions, the run and validation -/

theorem lenFieldDone_overlay (s : State) : (overlay v s).lenFieldDone = overlay v s.lenFieldDone := by
  have hb : (overlay v s).codec.bodyLen (overlay v s).ses.rxBuf = s.codec.bodyLen s.ses.rxBuf := rfl
  rw [State.lenFieldDone, State.lenFieldDone, hb]
  split
  · exact raise_overlay _ s
  · exact overlay_ite (raise_overlay _ s) rfl

theorem recvFrameStep_overlay (hv : v.cancel = id) (s : State) :
    (overlay v s).recvFrameStep = overlay v s.recvFrameStep :=
  overlay_ite (guarded_overlay hv (recvThen_overlay fun _ _ => rfl)) (lenFieldDone_overlay s)

theorem onFrame_overlay (hv : v.cancel = id) {k : Bytes → State → State} {s : State}
    (hk : ∀ b t, k b (overlay v t) = overlay v (k b t)) : (overlay v s).onFrame k = overlay v (s.onFrame k) :=
  overlay_ite (hk _ s.rxClear) (recvFrameStep_overlay hv s)

theorem openBody_overlay (hv : v.cancel = id) (par : Bytes → Option Bytes) (bad : Cause) (b : Bytes) (s : State) :
    (overlay v s).openBody par bad b = overlay v (s.openBody par bad b) := by
  unfold State.openBody
  split
  · exact raise_overlay _ s
  · exact guarded_overlay hv (decryptBegin_overlay _ _ s)

theorem nextOrg_overlay (s : State) : (overlay v s).nextOrg = overlay v s.nextOrg := by
  refine overlay_ite rfl ?_
  have hgc : (overlay v s).run.firstGcErr = s.run.firstGcErr := rfl
  rw [hgc]
  cases s.run.firstGcErr <;> rfl

theorem failedStep_overlay (s : State) : (overlay v s).failedStep = overlay v s.failedStep :=
  overlay_ite (nextOrg_overlay { s with run := { s.run with firstGcErr := keepFirst s.run.firstGcErr s.err } }) rfl

theorem authenticatedStep_overlay (s : State) : (overlay v s).authenticatedStep = overlay v s.authenticatedStep := by
  have hr : (overlay v s).ses.role = s.ses.role := rfl
  rw [State.authenticatedStep, State.authenticatedStep, hr]
  cases s.ses.role <;> rfl

theorem valParseStep_overlay (s : State) : (overlay v s).valParseStep = overlay v s.valParseStep :=
  overlay_ite (raise_overlay _ s) rfl

theorem valCompareStep_overlay (s : State) : (overlay v s).valCompareStep = overlay v s.valCompareStep := by
  have hh : (overlay v s).run.hdr = s.run.hdr := rfl
  rw [State.valCompareStep, State.valCompareStep, hh]
  cases s.run.hdr with
  | none => exact raise_overlay _ s
  | some h =>
    refine overlay_ite (raise_overlay _ s) ?_
    have hm : firstMismatch (overlay v s).cfg.attestEnc (overlay v s).run.digest 1 (overlay v s).run.attests =
      firstMismatch s.cfg.attestEnc s.run.digest 1 s.run.attests := rfl
    rw [hm]
    split
    · exact raise_overlay _ s
    · rfl

/-! ### The instructions -/

theorem overlayOutcome_ite {o o' p p' : Host.Outcome State Fault Refusal} {c : Prop} {_ : Decidable c}
    (h : p = overlayOutcome v o) (h' : p' = overlayOutcome v o') :
    (if c then p else p') = overlayOutcome v (if c then o else o') := by
  split
  · exact h
  · exact h'

/-- No command is accepted, or the host's program stays. -/
def ProgramKept (v : Veil) (s : State) : Prop := v.program = id ∨ s.port.busy = true

/-- A gated command commutes where its acceptance does. -/
theorem gated_overlay {s t t' : State} (hp : ProgramKept v s) (ht : v.program = id → t' = overlay v t) :
    (overlay v s).gated t' = overlayOutcome v (s.gated t) := by
  obtain hp | hb := hp
  · rw [ht hp]
    exact overlayOutcome_ite rfl (overlayOutcome_ite rfl rfl)
  · have hb' : (overlay v s).port.busy = true := hb
    rw [State.gated, State.gated, if_pos hb, if_pos hb']
    rfl

theorem presentedData_overlay (hv : v.program = id) (s : State) : (overlay v s).presentedData = s.presentedData := by
  have hp : (overlay v s).env.program = s.env.program := by
    change v.program s.env.program = _
    rw [hv, id]
  rw [State.presentedData, hp, State.presentedData]

theorem accept_overlay (hv : v.program = id) (w : Word) (d : Bytes) (s : State) :
    (overlay v s).accept w d = overlay v (s.accept w d) := by
  obtain ⟨p, c, r, x⟩ := v
  cases hv
  rfl

theorem command_overlay {s : State} (hp : ProgramKept v s) {w : Word} {k : Bytes → State → State}
    (hk : ∀ d t, k d (overlay v t) = overlay v (k d t)) :
    (overlay v s).command w k = overlayOutcome v (s.command w k) := by
  refine gated_overlay hp fun hv => ?_
  rw [presentedData_overlay hv, accept_overlay hv, hk]

theorem execRsaRdData_overlay (i : Fin 16) (s : State) :
    execRsaRdData i (overlay v s) = overlayOutcome v (execRsaRdData i s) := by
  unfold execRsaRdData
  cases nextIndex i with
  | none => exact congrArg _ (blockDone_overlay (readOut s i))
  | some j => rfl

theorem execSha3RdDigest_overlay (s : State) :
    execSha3RdDigest (overlay v s) = overlayOutcome v (execSha3RdDigest s) := by
  have hn : digestNext ((overlay v s).sha.dig ++ beBytes (overlay v s).digestWord).length =
    digestNext (s.sha.dig ++ beBytes s.digestWord).length := rfl
  simp only [execSha3RdDigest, hn]
  cases digestNext (s.sha.dig ++ beBytes s.digestWord).length with
  | none => exact congrArg _ (hashDone_overlay (digestRead s))
  | some k => rfl

theorem execOrgChallenge_overlay (s : State) :
    execOrgChallenge (overlay v s) = overlayOutcome v (execOrgChallenge s) := by
  have hc : (overlay v s).codec.parOrgChallenge (overlay v s).ses.held = s.codec.parOrgChallenge s.ses.held := rfl
  rw [execOrgChallenge, execOrgChallenge, hc]
  cases s.codec.parOrgChallenge s.ses.held with
  | none => exact congrArg _ (raise_overlay _ s)
  | some ng => rfl

theorem execOrgResponse_overlay (s : State) :
    execOrgResponse (overlay v s) = overlayOutcome v (execOrgResponse s) := by
  have hc : (overlay v s).codec.parOrgResponse (overlay v s).ses.held = s.codec.parOrgResponse s.ses.held := rfl
  rw [execOrgResponse, execOrgResponse, hc]
  cases s.codec.parOrgResponse s.ses.held with
  | none => exact congrArg _ (raise_overlay _ s)
  | some r => exact congrArg _ (overlay_ite (raise_overlay _ s) rfl)

theorem execUpdateImage_overlay (hv : v.cancel = id) (s : State) :
    execUpdateImage (overlay v s) = overlayOutcome v (execUpdateImage s) := by
  refine congrArg _ (onFrame_overlay hv fun b t => ?_)
  dsimp only
  have hc : (overlay v s).codec.parUpdateImage b = s.codec.parUpdateImage b := rfl
  rw [hc]
  split
  · exact raise_overlay _ t
  · exact overlay_ite (raise_overlay _ t) rfl

theorem execImageData_overlay (hv : v.cancel = id) (s : State) :
    execImageData (overlay v s) = overlayOutcome v (execImageData s) :=
  overlayOutcome_ite (overlayOutcome_ite rfl rfl)
    (congrArg _ (overlay_ite (guarded_overlay hv (recvThen_overlay fun _ _ => rfl)) rfl))

/-- The instruction is no message, or the cancel input stays. -/
def CancelKept (v : Veil) (c : Code) : Prop := v.cancel = id ∨ ∀ t, c ≠ .msg t

theorem cancel_of_message {t : BitVec 8} (h : CancelKept v (.msg t)) : v.cancel = id := h.resolve_right fun hn => hn t rfl

theorem exec_overlay (i : Instr) {s : State} (hp : ProgramKept v s) (hc : CancelKept v (encode i)) :
    exec i (overlay v s) = overlayOutcome v (exec i s) := by
  cases i with
  | rsaEncrypt key => exact command_overlay hp fun d => encryptBegin_overlay d key
  | rsaDecrypt key => exact command_overlay hp fun d => decryptBegin_overlay d key
  | sha3Reset => unfold exec execSha3Reset; exact command_overlay hp fun _ _ => rfl
  | sha3Hash => unfold exec execSha3Hash; exact command_overlay hp fun _ _ => rfl
  | protoRun => unfold exec execProtoRun; exact command_overlay hp fun _ _ => rfl
  | rsaWrData | rsaWrKeysel | rsaWrStart | sha3WrStart | sha3WrFifo | rsaWrStop | sha3RdFull | sha3WrCount => rfl
  | rsaRdStatus => exact congrArg _ (rsaPolled_overlay _ s.tookRsaStatus)
  | rsaRdData i => exact execRsaRdData_overlay i s
  | sha3WrReset =>
    refine congrArg Host.Outcome.next (overlay_ite ?_ ?_)
    all_goals rfl
  | sha3RdReady => exact congrArg _ (shaPolled_overlay _ s.tookShaReady)
  | sha3RdDigest => exact execSha3RdDigest_overlay s
  | updateCheck =>
    refine congrArg Host.Outcome.next (overlay_ite ?_ (guarded_overlay (cancel_of_message hc) (sendThen_overlay ?_)))
    · rfl
    · exact fun _ => rfl
  | m1 | m3 => exact congrArg _ (onFrame_overlay (cancel_of_message hc) (openBody_overlay (cancel_of_message hc) _ _))
  | m2 | ok =>
    refine congrArg Host.Outcome.next (guarded_overlay (cancel_of_message hc) (sendThen_overlay ?_))
    exact fun _ => rfl
  | updateImage => exact execUpdateImage_overlay (cancel_of_message hc) s
  | imageData => exact execImageData_overlay (cancel_of_message hc) s
  | orgChallenge => exact execOrgChallenge_overlay s
  | deviceChallenge =>
    exact congrArg _ (guarded_overlay (cancel_of_message hc) (encryptBegin_overlay _ _ (nonceDrawn s)))
  | orgResponse => exact execOrgResponse_overlay s

/-! ### The step -/

theorem illegalCommand_overlay {s : State} (hp : ProgramKept v s) :
    (overlay v s).illegalCommand = overlayOutcome v s.illegalCommand := by
  refine gated_overlay hp fun hv => ?_
  obtain ⟨p, c, r, x⟩ := v
  cases hv
  rfl

theorem runCode_overlay {c : Code} {s : State} (hp : ProgramKept v s) (hc : CancelKept v c) :
    runCode c (overlay v s) = overlayOutcome v (runCode c s) := by
  cases hd : decode c with
  | ok i =>
    have hi := (Codes.codesDecodeAndEncodeAgree c i).1 hd
    rw [runCode_ok hd, runCode_ok hd, exec_overlay i hp (hi ▸ hc)]
  | error e =>
    rw [runCode_error hd, runCode_error hd]
    cases c with
    | cmd w => exact illegalCommand_overlay hp
    | bus | msg => rfl

theorem runSilentStep_overlay (s : State) : (overlay v s).runSilentStep = overlayOutcome v s.runSilentStep := by
  have hr : (overlay v s).seq.run = s.seq.run := rfl
  rw [State.runSilentStep, State.runSilentStep, hr]
  cases s.seq.run with
  | valDecrypt =>
    have hb : (overlay v s).stageRead 0 (overlay v s).run.imgLen.toNat = s.stageRead 0 s.run.imgLen.toNat := rfl
    dsimp only
    rw [State.valDecryptStep, State.valDecryptStep, hb]
    cases s.stageRead 0 s.run.imgLen.toNat with
    | none => rfl
    | some img => exact congrArg Host.Outcome.next (decryptBegin_overlay img _ s)
  | valParse => exact congrArg Host.Outcome.next (valParseStep_overlay s)
  | valCompare => exact congrArg Host.Outcome.next (valCompareStep_overlay s)
  | valHash | runIdle | runGU | runGC | runReady | runFailed => rfl

theorem silentStep_overlay (s : State) : (overlay v s).silentStep = overlayOutcome v s.silentStep := by
  refine overlayOutcome_ite rfl (overlayOutcome_ite (congrArg Host.Outcome.next (fillStep_overlay s)) ?_)
  have hx : (overlay v s).seq.sess = s.seq.sess := rfl
  rw [hx]
  cases s.seq.sess with
  | authenticated => exact congrArg Host.Outcome.next (authenticatedStep_overlay s)
  | sessionDone => exact congrArg Host.Outcome.next (nextOrg_overlay s.recordSuccess)
  | failed => exact congrArg Host.Outcome.next (failedStep_overlay s)
  | noSession => exact runSilentStep_overlay s
  | checkSent | challengeSent | init | awaitM1 | awaitM3 | awaitImageSize | receivingImage | imageComplete => rfl

theorem fetch_overlay {s : State} (hp : ProgramKept v s) : fetch (overlay v s) = fetch s := by
  obtain hp | hb := hp
  · obtain ⟨p, c, r, x⟩ := v
    cases hp
    rfl
  · have hb' : (overlay v s).port.busy = true := hb
    rw [fetch, fetch, if_pos hb, if_pos hb']
    rfl

/-- Out of reset, a step under a change of fields it does not look at is the step under that change. -/
theorem step_overlay {s : State} (hr : s.env.resetIn = false) (hp : ProgramKept v s)
    (hc : v.cancel = id ∨ ∀ t, fetch s ≠ some (.msg t)) : step (overlay v s) = overlayOutcome v (step s) := by
  have hr' : (overlay v s).env.resetIn = false := hr
  cases hq : s.env.busRequest with
  | some d =>
    rw [step_request hr hq, step_request hr' (by exact hq)]
    exact runCode_overlay (s := s.dropRequest) hp (.inr nofun)
  | none =>
    have hq' : (overlay v s).env.busRequest = none := hq
    have hf := fetch_overlay hp
    cases hs : fetch s with
    | none => rw [step_silent hr hq hs, step_silent hr' hq' (hf.trans hs), silentStep_overlay]
    | some c =>
      rw [step_fetch hr hq hs, step_fetch hr' hq' (hf.trans hs)]
      exact runCode_overlay hp (hc.imp_right fun hn t ht => hn t (hs.trans (congrArg some ht)))

/-! ### The suspect bits (R25) -/

/-- Any suspect bits, over a state with both clear. -/
def suspectVeil (r x : Bool) : Veil := ⟨id, id, r, x⟩

/-- Both suspect bits clear. -/
def cleared (s : State) : State := { s with book := ⟨s.book.shaDirty, false, false⟩ }

theorem overlay_cleared (r x : Bool) (s : State) : overlay (suspectVeil r x) (cleared s) =
    { s with book := { s.book with suspectRsa := r, suspectSha := x } } := by
  simp [overlay, cleared, suspectVeil]

/-- Settles O59: only a timeout sets a bit, and every step out of reset commutes with bits set over cleared ones. -/
theorem suspectIsBookkeeping : Obligations.SuspectIsBookkeeping := by
  refine ⟨fun s t hstep hr => ?_, fun s t r x hstep => ?_⟩
  · obtain ⟨hrsa, hsha⟩ := suspectFrame_step hr hstep
    refine ⟨fun h => ?_, fun h => ?_, fun h h' => ?_, fun h h' => ?_⟩
    · exact hrsa.elim (·.trans h) (·.1)
    · exact hsha.elim (·.trans h) (·.1)
    · exact hrsa.elim (fun he => (Bool.false_ne_true ((he.trans h).symm.trans h')).elim) (·.2)
    · exact hsha.elim (fun he => (Bool.false_ne_true ((he.trans h).symm.trans h')).elim) (·.2)
  · cases hr : s.env.resetIn with
    | true =>
      rw [step_reset hr] at hstep
      cases hstep
      exact ⟨_, step_reset (by exact hr), rfl⟩
    | false =>
      have hs := step_overlay (v := suspectVeil s.book.suspectRsa s.book.suspectSha) (s := cleared s) hr (.inl rfl)
        (.inl rfl)
      have ht := step_overlay (v := suspectVeil r x) (s := cleared s) hr (.inl rfl) (.inl rfl)
      rw [overlay_cleared] at hs ht
      have hst : step s = overlayOutcome (suspectVeil s.book.suspectRsa s.book.suspectSha) (step (cleared s)) := hs
      cases hu : step (cleared s) with
      | next u =>
        rw [hu] at hst ht
        cases hst.symm.trans hstep
        exact ⟨_, ht, rfl⟩
      | fault f => rw [hu] at hst; cases hst.symm.trans hstep
      | refused f => rw [hu] at hst; cases hst.symm.trans hstep

/-! ### The command port (R17) -/

/-- Another host program. -/
def programVeil (p : List HostLine) : Veil := ⟨fun _ => p, id, false, false⟩

theorem overlay_programVeil (p : List HostLine) (s : State) :
    overlay (programVeil p) s = { s with env := { s.env with program := p } } := by
  simp [overlay, programVeil]

/-- While busy, a step is the same whatever the host presents. -/
theorem step_program {s : State} (hb : s.port.busy = true) (p : List HostLine) :
    step { s with env := { s.env with program := p } } = overlayOutcome (programVeil p) (step s) := by
  cases hr : s.env.resetIn with
  | true =>
    rw [step_reset hr, step_reset (by exact hr)]
    rfl
  | false =>
    rw [← overlay_programVeil]
    exact step_overlay hr (.inr hb) (.inl rfl)

theorem program_kept {s t : State} (hb : s.port.busy = true) (h : step s = .next t) :
    t.env.program = s.env.program := by
  have hp : step s = overlayOutcome (programVeil s.env.program) (step s) := step_program hb s.env.program
  rw [h] at hp
  injection hp with ht
  rw [ht]
  rfl

theorem exec_command {w : BitVec 32} {i : Instr} (hi : decode (.cmd w) = .ok i) (s : State) :
    ∃ t, exec i s = s.gated t := by
  obtain ⟨key, rfl⟩ | ⟨key, rfl⟩ | rfl | ⟨hex, rfl⟩ | rfl := decodeCmd_ok hi <;> exact ⟨_, rfl⟩

theorem gated_busy {s t : State} (hb : s.port.busy = true) : s.gated t = .next s := if_pos hb

theorem gated_bootUnmet {s t : State} (hb : s.port.busy = false) (hm : s.env.boot.met = false) :
    s.gated t = .refused .bootUnmet := by
  simp [State.gated, hb, hm]

/-- Settles O7: the gate of every command, and the steps of a busy machine under another program. -/
theorem commandPortGates : Obligations.CommandPortGates := by
  refine ⟨fun s hr hq hb hp => step_idle hr hq hb hp, fun s w i hi hb => ?_, fun s w i hi hb hm => ?_,
    fun s l rest hr hq hb hp hw hm => ?_, fun s t p hb h => ⟨program_kept hb h, ?_⟩,
    fun s p hb => ⟨fun f h => ?_, fun r h => ?_⟩⟩
  · obtain ⟨t, ht⟩ := exec_command hi s
    rw [ht, gated_busy hb]
  · obtain ⟨t, ht⟩ := exec_command hi s
    rw [ht, gated_bootUnmet hb hm]
  · obtain ⟨e, he⟩ := Codes.exists_decode_error hw
    rw [step_presented hr hq hb hp, runCode_error he]
    exact gated_bootUnmet hb hm
  · rw [step_program hb, h, overlayOutcome, overlay_programVeil]
  · rw [step_program hb, h, overlayOutcome]
  · rw [step_program hb, h, overlayOutcome]

/-! ### The cancel input (R116) -/

/-- Another cancel input. -/
def cancelVeil (c : Bool) : Veil := ⟨id, fun _ => c, false, false⟩

theorem overlay_cancelVeil (c : Bool) (s : State) :
    overlay (cancelVeil c) s = { s with env := { s.env with cancel := c } } := by
  simp [overlay, cancelVeil]

/-- No message is fetched outside a session or inside an engine procedure. -/
theorem fetch_ne_msg {s : State} (h : s.seq.sess.active = false ∨ s.seq.proc ≠ .idle ∨ s.rsa.filling = true)
    (t : BitVec 8) : fetch s ≠ some (.msg t) := by
  unfold fetch
  split
  · split
    · rename_i i hi
      obtain ⟨d, hd⟩ := encode_procInstr hi
      simp [hd]
    · rename_i hnone
      split
      · simp
      · rename_i hf
        have hx : s.seq.sess = .noSession :=
          Quorum.sess_of_not_active (h.resolve_right fun h => h.elim (· (procInstr_eq_none.1 hnone)) hf)
        simp [hx, sessionTag]
  · split <;> simp

/-- Settles O60: in such a state no message is fetched, and nothing else samples the input. -/
theorem cancelIsSampledInSessionsOnly : Obligations.CancelIsSampledInSessionsOnly := by
  intro s t c h hq hstep
  cases hr : s.env.resetIn with
  | true =>
    rw [step_reset hr] at hstep
    cases hstep
    rw [step_reset (by exact hr)]
    rfl
  | false =>
    have hs := step_overlay (v := cancelVeil c) hr (.inl rfl) (.inr (fetch_ne_msg h))
    rw [hstep, overlayOutcome, overlay_cancelVeil, overlay_cancelVeil] at hs
    exact hs

end Sys2Proof.Proofs.Overlays
end

section
/-! PROOF. What the blocks of Encrypt open to (40_rsa section 6, 90_conflicts C2), and what the cores answer under the named
premises (40_rsa R84, 41_sha3 R99, R100). -/

namespace Sys2Proof.Proofs.RoundTrips
open Sys2Proof Sys2Proof.Machine Sys2Proof.Safety
open Sys2Proof.Proofs.Packing Sys2Proof.Proofs.PkcsBlocks Sys2Proof.Proofs.CommandStarts

/-! ### Opened blocks (R87) -/

theorem openBlocks_append_singleton (l : List Bytes) (o : Bytes) :
    openBlocks (l ++ [o]) = l.flatMap payloadOf ++ strip (payloadOf o) := by
  induction l with
  | nil => rfl
  | cons b l ih =>
    have hne : openBlocks (b :: (l ++ [o])) = payloadOf b ++ openBlocks (l ++ [o]) := by cases l <;> rfl
    rw [List.cons_append, hne, ih, List.flatMap_cons, List.append_assoc]

/-- The pad run of a short segment is stripped whole. -/
theorem strip_padRun {m : Nat} (h : m < 255) (t : Bytes) :
    strip (List.replicate (m + 1) (BitVec.ofNat 8 (m + 1)) ++ t) = t := by
  have hn : (BitVec.ofNat 8 (m + 1)).toNat = m + 1 := by rw [BitVec.toNat_ofNat]; omega
  have hrun : hasPadRun (BitVec.ofNat 8 (m + 1) :: (List.replicate m (BitVec.ofNat 8 (m + 1)) ++ t)) = true := by
    refine (hasPadRun_cons_iff _ _).2 ⟨by omega, by simp [hn], fun i hi => ?_⟩
    rw [← List.cons_append, ← List.replicate_succ, List.getElem?_append_left (by simp; omega)]
    exact List.getElem?_replicate_of_lt (by omega)
  rw [List.replicate_succ, List.cons_append, strip_of_hasPadRun hrun, hn, ← List.cons_append, ← List.replicate_succ,
    List.drop_left' (List.length_replicate ..)]

/-- The last segment is what stands behind the full ones. -/
theorem segAt_last {p : Bytes} {n : Nat} (h : segCount p = n + 1) : segAt p n = p.drop (53 * n) := by
  unfold segCount at h
  exact List.take_of_length_le (by rw [List.length_drop]; omega)

theorem payloadOf_full {p : Bytes} {f : Nat → Bytes} (hf : ∀ k, FillerValid (f k)) {n : Nat} (h : segCount p = n + 1) :
    ((List.range n).map fun k => padBlock (segAt p k) (f k)).flatMap payloadOf = p.take (53 * n) := by
  rw [← flatMap_segAt_range, List.flatMap_map]
  refine List.flatMap_congr fun k hk => ?_
  have hlt := List.mem_range.1 hk
  have hlen : (segAt p k).length = 53 := length_segAt_of_not_last (by omega)
  rw [payloadOf_padBlock (by omega) (hf k).1, hlen]
  rfl

/-- What the last block opens to: a short segment whole, a full one stripped. -/
theorem strip_payloadOf_last {p f : Bytes} (hf : f.length = 8) {n : Nat} (h : segCount p = n + 1) :
    strip (payloadOf (padBlock (segAt p n) f)) = if p.length % 53 = 0 then strip (segAt p n) else segAt p n := by
  have hlen := length_segAt p n
  unfold segCount at h
  rw [payloadOf_padBlock (by omega) hf]
  split
  · rw [show 53 - (segAt p n).length = 0 by omega]
    rfl
  · obtain ⟨m, hm⟩ : ∃ m, 53 - (segAt p n).length = m + 1 := ⟨52 - (segAt p n).length, by omega⟩
    rw [hm, strip_padRun (by omega)]

/-- Settles O41: the full segments come back as they are, and the last one by the pad run or by C2. -/
theorem paddedBlocksOpenToPlaintext : Obligations.PaddedBlocksOpenToPlaintext := by
  intro p f hp hf
  constructor
  · intro o ho
    obtain ⟨k, -, rfl⟩ := List.mem_map.1 ho
    have hseg : (segAt p k).length ≤ 53 := by rw [length_segAt]; omega
    exact ⟨length_padBlock hseg (hf k).1, (hdrOk_padBlock_iff (hf k).1).2 (hf k)⟩
  · obtain ⟨n, hn⟩ := Nat.exists_eq_succ_of_ne_zero fun h => hp ((segCount_eq_zero_iff p).1 h)
    have hopen : openBlocks (paddedBlocks p f) =
        p.take (53 * n) ++ if p.length % 53 = 0 then strip (segAt p n) else segAt p n := by
      rw [paddedBlocks, hn, List.range_succ, List.map_append, List.map_singleton, openBlocks_append_singleton,
        payloadOf_full hf hn, strip_payloadOf_last (hf n).1 hn]
    have hp' : p.take (53 * n) ++ segAt p n = p := by rw [segAt_last hn, List.take_append_drop]
    rw [hopen, hn, Nat.succ_sub_one]
    split <;> rename_i hmod
    · calc p.take (53 * n) ++ strip (segAt p n) = p
          ↔ p.take (53 * n) ++ strip (segAt p n) = p.take (53 * n) ++ segAt p n := by rw [hp']
        _ ↔ strip (segAt p n) = segAt p n := List.append_cancel_left_eq ..  |> iff_of_eq
        _ ↔ _ := by simp [hmod]
    · exact iff_of_true hp' fun h => hmod h.1

/-! ### The cores' answers (R84, R99, R100) -/

theorem unwords_injective {ws ws' : List Word} (h : unwords ws = unwords ws') : ws = ws' := by
  rw [← words_unwords ws, h, words_unwords]

/-- At the start write the FIFO holds the whole message. -/
theorem unwords_fifo_at_start {s : State} (h : HashOrdered s) (hp : s.seq.proc = .shaWrStart) :
    unwords s.shaWin.fifo = s.sha.msg := by
  obtain ⟨-, -, -, hstart, -⟩ := h
  obtain ⟨-, -, -, hmod, hfifo⟩ := hstart hp
  have hlen : (words s.sha.msg).length = s.sha.msg.length / 4 := by simp [words]
  rw [hfifo, ← hlen, List.take_length, unwords_words _ (by omega)]

theorem digest_of_shaAnswers {f : Bytes → Bytes} {s : State} (h : HashOrdered s) (hp : s.seq.proc = .shaWrStart)
    (hf : ShaAnswers f s) : unwords s.shaDigestBlock.toList = f s.sha.msg := by
  rw [hf.2, unwords_fifo_at_start h hp]

/-- Settles O45: the start write takes the core's answer; the streamed words are the message's; words are determined by
their bytes. -/
theorem coresAnswerWhatWasWritten : Obligations.CoresAnswerWhatWasWritten := by
  refine ⟨fun f s hf => ⟨_, rfl, hf.2⟩, fun f s h hp hf => ⟨_, rfl, digest_of_shaAnswers h hp hf⟩,
    fun f s h hp hf hk => ⟨_, rfl, fun hm => ?_, fun hm => ?_⟩⟩
  · exact unwords_injective ((digest_of_shaAnswers h hp hf).trans (hm ▸ hk.1))
  · exact unwords_injective ((digest_of_shaAnswers h hp hf).trans (hm ▸ hk.2))

end Sys2Proof.Proofs.RoundTrips
end

section
/-! PROOF. A framed message at the head of the stream (42_protocol section 1, 30_encoding section 4): the length
field, the length it gives, the body, and nothing after it. -/

namespace Sys2Proof.Proofs.FramedMessages
open Sys2Proof Sys2Proof.Machine Sys2Proof.Safety
open Sys2Proof.Proofs.SilentSteps Sys2Proof.Proofs.MessageRows

/-- ZU-CORE stands where a frame is received, with nothing to stop it. -/
structure AtFrame (s : State) : Prop where
  running : Running s
  resting : resting s = true
  sess : s.seq.sess = .awaitM1 ∨ s.seq.sess = .awaitM3 ∨ s.seq.sess = .awaitImageSize
  phase : s.seq.phase = .start
  cancel : s.env.cancel = false
  link : s.env.boot.linkUp = true

theorem step_receiving {s : State} (h : AtFrame s) (hf : s.frameReady = false) : step s = .next s.recvFrameStep := by
  obtain ⟨hs, hrest, hx, hp, -, -⟩ := h
  obtain ⟨hproc, hfill⟩ := (resting_iff s).1 hrest
  have at_tag {t : BitVec 8} {i : Instr} (ht : sessionTag s.seq.sess s.seq.phase = some t) (hi : decodeMsg t = .ok i)
      (hr : i = .m1 ∨ i = .m3 ∨ i = .updateImage) : step s = .next s.recvFrameStep := by
    rw [step_message hs hproc hfill ht hi, exec_receiving hr hf]
  obtain hx | hx | hx := hx
  · exact at_tag (t := 0x11) (i := .m1) (by rw [hx, hp]; rfl) rfl (.inl rfl)
  · exact at_tag (t := 0x13) (i := .m3) (by rw [hx, hp]; rfl) rfl (.inr (.inl rfl))
  · exact at_tag (t := 0x14) (i := .updateImage) (by rw [hx, hp]; rfl) rfl (.inr (.inr rfl))

/-- A piece that is wanted and stands at the head of the stream is taken, and what follows it stays. -/
theorem recvFrameStep_piece {s : State} (h : AtFrame s) {x y : Bytes} {tl : List RecvAnswer} (hx : x ≠ [])
    (hbuf : s.ses.rxBuf = []) (hwant : s.rxWant = x.length) (hrecv : s.env.recv = .data (x ++ y) :: tl) :
    s.recvFrameStep = framePiece x (s.tookRecv y) := by
  obtain ⟨b, x, rfl⟩ := List.exists_cons_of_ne_nil hx
  have ha : s.recvAnswer = .data (b :: (x ++ y)) := by
    simp [State.recvAnswer, hrecv, nextAnswer, h.link]
  have hlt : s.ses.rxBuf.length < s.rxWant := by rw [hbuf, hwant]; exact Nat.succ_pos _
  have hn : s.rxWant - s.ses.rxBuf.length = (b :: x).length := by rw [hbuf, hwant]; rfl
  rw [recvFrameStep_wanting hlt, guarded_recvThen_data h.cancel _ _ ha, hn, ← List.cons_append, List.take_left,
    List.drop_left]

/-- The state with the length field received. -/
def lengthFieldTaken (s : State) (q y : Bytes) : State := framePiece q (s.tookRecv y)

/-- The state with the body's length read. -/
def lengthKnown (s : State) (q y : Bytes) (n : Nat) : State :=
  { lengthFieldTaken s q y with ses := { s.ses with rx := .body n, rxBuf := [] } }

/-- The state with the body received. -/
def bodyTaken (s : State) (q b after : Bytes) : State :=
  framePiece b ((lengthKnown s q (b ++ after) b.length).tookRecv after)

theorem isEmpty_append_eq_false {b after : Bytes} (h : b ≠ []) : (b ++ after).isEmpty = false := by
  cases b with
  | nil => exact absurd rfl h
  | cons => rfl

section
variable {canFrame : Nat → Prop} {s : State} {b after : Bytes} {tl : List RecvAnswer}

/-- The first two steps: the length field, and the length it gives. -/
theorem steps_length (h : AtFrame s) (hrx : s.ses.rx = .lenField) (hbuf : s.ses.rxBuf = [])
    (hc : CodecLawful canFrame s.codec) (hb : canFrame b.length) (hlen : s.codec.pfxWidth + b.length ≤ 512)
    (hrecv : s.env.recv = .data (frame s.codec b ++ after) :: tl) :
    steps 2 s = .next (lengthKnown s (s.codec.pfx b.length) (b ++ after) b.length) := by
  have hpfx : (s.codec.pfx b.length).length = s.codec.pfxWidth := hc.pfxLength _
  have hne : s.codec.pfx b.length ≠ [] := fun hnil => by
    rw [hnil] at hpfx
    cases hpfx
  have hwant : s.rxWant = (s.codec.pfx b.length).length := by rw [State.rxWant, hrx, hpfx]
  have hf : s.frameReady = false := by rw [State.frameReady, hrx]
  have hfirst : step s = .next (lengthFieldTaken s (s.codec.pfx b.length) (b ++ after)) := by
    rw [step_receiving h hf, recvFrameStep_piece h hne hbuf hwant (by rw [hrecv, frame, List.append_assoc]), lengthFieldTaken]
  have hat : AtFrame (lengthFieldTaken s (s.codec.pfx b.length) (b ++ after)) :=
    ⟨h.running, h.resting, h.sess, h.phase, h.cancel, h.link⟩
  have hf' : (lengthFieldTaken s (s.codec.pfx b.length) (b ++ after)).frameReady = false := by
    rw [State.frameReady, (by exact hrx : (lengthFieldTaken s (s.codec.pfx b.length) (b ++ after)).ses.rx = .lenField)]
  have hbuf' : (lengthFieldTaken s (s.codec.pfx b.length) (b ++ after)).ses.rxBuf = s.codec.pfx b.length := by
    change s.ses.rxBuf ++ _ = _
    rw [hbuf, List.nil_append]
  have hwhole : (lengthFieldTaken s (s.codec.pfx b.length) (b ++ after)).rxWant ≤
      (lengthFieldTaken s (s.codec.pfx b.length) (b ++ after)).ses.rxBuf.length := by
    rw [hbuf', ← hwant]
    exact le_refl s.rxWant
  have hbody : (lengthFieldTaken s (s.codec.pfx b.length) (b ++ after)).codec.bodyLen
      (lengthFieldTaken s (s.codec.pfx b.length) (b ++ after)).ses.rxBuf = some b.length := by
    rw [hbuf']
    exact hc.framing _ hb
  have hsecond : step (lengthFieldTaken s (s.codec.pfx b.length) (b ++ after)) =
      .next (lengthKnown s (s.codec.pfx b.length) (b ++ after) b.length) := by
    rw [step_receiving hat hf', recvFrameStep_whole hwhole, lenFieldDone_body hbody hlen]
    rfl
  rw [steps_succ_next hfirst, steps_succ_next hsecond, steps_zero]

/-- The third step: the body. -/
theorem step_body (h : AtFrame s) (hb : b ≠ []) (hrecv : s.env.recv = .data (frame s.codec b ++ after) :: tl)
    (q : Bytes) : step (lengthKnown s q (b ++ after) b.length) = .next (bodyTaken s q b after) := by
  have hat : AtFrame (lengthKnown s q (b ++ after) b.length) :=
    ⟨h.running, h.resting, h.sess, h.phase, h.cancel, h.link⟩
  have hf : (lengthKnown s q (b ++ after) b.length).frameReady = false :=
    decide_eq_false fun hle => hb (List.length_eq_zero_iff.1 (Nat.le_zero.1 hle))
  have hstream : (lengthKnown s q (b ++ after) b.length).env.recv = .data (b ++ after) :: tl := by
    change (if (b ++ after).isEmpty then s.env.recv.tail else .data (b ++ after) :: s.env.recv.tail) = _
    rw [isEmpty_append_eq_false hb, hrecv]
    rfl
  rw [step_receiving hat hf, recvFrameStep_piece hat hb rfl rfl hstream, bodyTaken]

theorem frameReady_bodyTaken (q : Bytes) : (bodyTaken s q b after).frameReady = true :=
  decide_eq_true (le_refl b.length)

end

/-- Settles O49: two steps to the body's length, and one more where there is a body. -/
theorem framedMessageIsReceivedWhole : Obligations.FramedMessageIsReceivedWhole := by
  intro canFrame s b after tl hs hrest hx hp hrx hbuf hcancel hlink hc hb hlen hrecv
  have h : AtFrame s := ⟨hs, hrest, hx, hp, hcancel, hlink⟩
  have htwo := steps_length h hrx hbuf hc hb hlen hrecv
  by_cases hnil : b = []
  · subst hnil
    refine ⟨_, htwo, rfl, rfl, ?_, rfl, rfl, rfl, rfl, rfl, rfl⟩
    change (if after.isEmpty then s.env.recv.tail else .data after :: s.env.recv.tail) = _
    rw [hrecv, List.tail_cons]
    simp
  · have hthree := (steps_add (k := 1) htwo).trans (steps_succ_next (step_body h hnil hrecv _))
    rw [if_neg hnil]
    refine ⟨_, hthree, frameReady_bodyTaken _, rfl, ?_, ?_, ?_, ?_, ?_, ?_, ?_⟩
    case refine_2 | refine_3 | refine_4 | refine_5 | refine_6 | refine_7 =>
      simp [bodyTaken, lengthKnown, lengthFieldTaken, framePiece]
    change (if after.isEmpty then (if (b ++ after).isEmpty then s.env.recv.tail else
      .data (b ++ after) :: s.env.recv.tail).tail else .data after :: (if (b ++ after).isEmpty then s.env.recv.tail else
      .data (b ++ after) :: s.env.recv.tail).tail) = _
    rw [isEmpty_append_eq_false hnil, hrecv]
    simp

end Sys2Proof.Proofs.FramedMessages
end

section
/-! PROOF. SHA3_HASH from its acceptance to its end (41_sha3 sections 2 and 4): the FIFO writes, the poll and the digest
reads, each a run of its own. -/

namespace Sys2Proof.Proofs.HashCommand
open Sys2Proof Sys2Proof.Machine Sys2Proof.Safety
open Sys2Proof.Proofs.Moves Sys2Proof.Proofs.CommandStarts Sys2Proof.Proofs.BusTransactions

theorem steps_trans {j k : Nat} {s t u : State} (h : steps j s = .next t) (h' : steps k t = .next u) :
    steps (j + k) s = .next u := (steps_add h).trans h'

theorem steps_one {s t : State} (h : step s = .next t) : steps 1 s = .next t := steps_succ_next h

/-! ### The FIFO writes (R104) -/

theorem drop_words {m : Bytes} {j : Nat} (h : j < m.length / 4) :
    (words m).drop j = wordAt m j :: (words m).drop (j + 1) := by
  rw [List.drop_eq_getElem_cons (by simpa [words] using h)]
  simp [words]

/-- The state in which all words of the message from `sha_j` on have been written. -/
def streamed (u : State) : State :=
  { u with
    shaWin := { u.shaWin with fifo := u.shaWin.fifo ++ (words u.sha.msg).drop u.sha.j }
    book := { u.book with shaDirty := true }
    sha := { u.sha with j := u.sha.msg.length / 4 }
    seq := { u.seq with proc := .shaWrStart } }

theorem streamed_fifoWritten {u : State} (h : u.sha.j < u.sha.msg.length / 4) (p : Proc) :
    streamed ((fifoWritten u).goProc p) = streamed u := by
  have hfifo : u.shaWin.fifo ++ [wordAt u.sha.msg u.sha.j] ++ (words u.sha.msg).drop (u.sha.j + 1) =
      u.shaWin.fifo ++ (words u.sha.msg).drop u.sha.j := by
    rw [drop_words h, List.append_assoc, List.singleton_append]
  rw [streamed, streamed, ← hfifo]
  rfl

/-- The last write of the stream. -/
theorem streamed_last {u : State} (h : u.sha.j + 1 = u.sha.msg.length / 4) :
    (fifoWritten u).goProc .shaWrStart = streamed u := by
  rw [streamed, drop_words (by omega), List.drop_of_length_le (by simp [words]; omega), ← h]
  rfl

theorem steps_fifo (n : Nat) {u : State} {j : Nat} (hs : Running u) (hp : u.seq.proc = .shaWrFifo j)
    (hn : u.sha.j + (n + 1) = u.sha.msg.length / 4) : steps (n + 1) u = .next (streamed u) := by
  induction n generalizing u j with
  | zero =>
    have hstep : step u = exec .sha3WrFifo u := step_proc hs (by rw [hp]; rfl)
    rw [exec_sha3WrFifo, if_neg (by omega), streamed_last (by omega)] at hstep
    exact steps_one hstep
  | succ n ih =>
    have hstep : step u = exec .sha3WrFifo u := step_proc hs (by rw [hp]; rfl)
    rw [exec_sha3WrFifo, if_pos (by omega)] at hstep
    have hn' : u.sha.j + 1 + (n + 1) = u.sha.msg.length / 4 := by omega
    rw [steps_succ_next hstep, ← streamed_fifoWritten (by omega) (.shaWrFifo (u.sha.j + 1))]
    exact ih (u := (fifoWritten u).goProc (.shaWrFifo (u.sha.j + 1))) hs rfl hn'

/-! ### The poll (R106) -/

/-- The state in which the ready value has been read after `n` other words. -/
def readyRead (u : State) (n : Nat) (more : List Word) : State :=
  { u with
    sha := { u.sha with pollcnt := u.sha.pollcnt + (n + 1) }
    seq := { u.seq with proc := .shaRdDigest 0 }
    env := { u.env with shaReady := more, draws := u.env.draws + (n + 1) } }

theorem shaReadyWord_of_cons {u : State} {w : Word} {ws : List Word} (h : u.env.shaReady = w :: ws) :
    u.shaReadyWord = w := by
  rw [State.shaReadyWord, h, nextAnswer]

/-- The state after a read of any other word. -/
def notReadyRead (u : State) : State :=
  { u with
    sha := { u.sha with pollcnt := u.sha.pollcnt + 1 }
    seq := { u.seq with proc := .shaPoll (u.sha.pollcnt + 2) }
    env := { u.env with shaReady := u.env.shaReady.tail, draws := u.env.draws + 1 } }

theorem readyRead_notReadyRead (u : State) (n : Nat) (more : List Word) :
    readyRead (notReadyRead u) n more = readyRead u (n + 1) more := by
  simp only [readyRead, notReadyRead, Nat.add_assoc, Nat.add_comm 1]

theorem steps_poll {pre more : List Word} {u : State} {a : Nat} (hs : Running u) (hp : u.seq.proc = .shaPoll a)
    (hready : u.env.shaReady = pre ++ u.cfg.shaReady :: more) (hpre : ∀ w ∈ pre, w ≠ u.cfg.shaReady)
    (hmax : u.sha.pollcnt + pre.length < u.cfg.pollMax) :
    steps (pre.length + 1) u = .next (readyRead u pre.length more) := by
  induction pre generalizing u a with
  | nil =>
    have hw : u.shaReadyWord = u.cfg.shaReady := shaReadyWord_of_cons hready
    have hstep : step u = exec .sha3RdReady u := step_proc hs (by rw [hp]; rfl)
    rw [pollReadsStatus.2 u (.inl hw), if_pos hw, hready] at hstep
    exact steps_one hstep
  | cons w pre ih =>
    obtain ⟨hne, hpre⟩ := List.forall_mem_cons.1 hpre
    have hw : u.shaReadyWord ≠ u.cfg.shaReady := by rwa [shaReadyWord_of_cons hready]
    rw [List.length_cons] at hmax
    have hstep : step u = exec .sha3RdReady u := step_proc hs (by rw [hp]; rfl)
    rw [pollReadsStatus.2 u (.inr (by omega)), if_neg hw] at hstep
    have hmax' : u.sha.pollcnt + 1 + pre.length < u.cfg.pollMax := by omega
    rw [List.length_cons, steps_succ_next hstep, ← readyRead_notReadyRead]
    exact ih (u := notReadyRead u) hs rfl (by rw [notReadyRead, hready]; rfl) hpre hmax'

/-! ### The digest reads (R107) -/

/-- The state in which the command's hash has ended with digest `dig`. -/
def digested (u : State) (dig : Bytes) : State :=
  State.complete .ok (if u.sha.hex then hexEnc dig else dig)
    { u with shaWin := { u.shaWin with ptr := 16 }, sha := { u.sha with dig := dig } }

theorem drop_digest {u : State} (h : u.shaWin.ptr < 16) :
    u.shaWin.digest.toList.drop u.shaWin.ptr = u.digestWord :: u.shaWin.digest.toList.drop (u.shaWin.ptr + 1) := by
  rw [List.drop_eq_getElem_cons (by simpa using h), digestWord_of_lt h, Vector.getElem_toList]

/-- The digest bytes read, with those that are still behind SHA3.DIGEST. -/
def wholeDigest (u : State) : Bytes := u.sha.dig ++ unwords (u.shaWin.digest.toList.drop u.shaWin.ptr)

theorem wholeDigest_digestRead {u : State} (h : u.shaWin.ptr < 16) (p : Proc) :
    wholeDigest ((digestRead u).goProc p) = wholeDigest u := by
  rw [wholeDigest, wholeDigest, drop_digest h, Packing.unwords_cons, ← List.append_assoc]
  rfl

theorem wholeDigest_last {u : State} (h : u.shaWin.ptr = 15) : wholeDigest u = u.sha.dig ++ beBytes u.digestWord := by
  rw [wholeDigest, drop_digest (by omega), List.drop_of_length_le (by simp; omega)]
  simp

theorem length_digestRead (u : State) : (u.sha.dig ++ beBytes u.digestWord).length = u.sha.dig.length + 4 := by
  simp [beBytes]

/-- The last read ends the hash. -/
theorem hashDone_digestRead {u : State} (hr : u.seq.run ≠ .valHash) (h : u.shaWin.ptr = 15) :
    (digestRead u).hashDone = digested u (wholeDigest u) := by
  rw [State.hashDone, if_neg (by exact hr), wholeDigest_last h, digested, digestRead, State.tookDigest, h]

theorem steps_digest (n : Nat) {u : State} {k : Fin 16} (hs : Running u) (hp : u.seq.proc = .shaRdDigest k)
    (hr : u.seq.run ≠ .valHash) (hn : u.shaWin.ptr + (n + 1) = 16) (hd : u.sha.dig.length = 4 * u.shaWin.ptr) :
    steps (n + 1) u = .next (digested u (wholeDigest u)) := by
  induction n generalizing u k with
  | zero =>
    have hstep : step u = exec .sha3RdDigest u := step_proc hs (by rw [hp]; rfl)
    rw [exec_sha3RdDigest_last (by rw [length_digestRead]; omega), hashDone_digestRead hr (by omega)] at hstep
    exact steps_one hstep
  | succ n ih =>
    have hstep : step u = exec .sha3RdDigest u := step_proc hs (by rw [hp]; rfl)
    have hk : (u.sha.dig ++ beBytes u.digestWord).length / 4 = u.shaWin.ptr + 1 := by rw [length_digestRead]; omega
    have hlt : u.shaWin.ptr + 1 < 16 := by omega
    rw [exec_sha3RdDigest_next (k := ⟨u.shaWin.ptr + 1, hlt⟩) hk] at hstep
    rw [steps_succ_next hstep, ← wholeDigest_digestRead (by omega) (.shaRdDigest ⟨u.shaWin.ptr + 1, hlt⟩)]
    refine ih (u := (digestRead u).goProc (.shaRdDigest ⟨u.shaWin.ptr + 1, hlt⟩)) hs rfl hr ?_ ?_
    · change u.shaWin.ptr + 1 + (n + 1) = 16
      omega
    · change (u.sha.dig ++ beBytes u.digestWord).length = 4 * (u.shaWin.ptr + 1)
      rw [length_digestRead]
      omega

/-! ### The command (R102) -/

/-- The state after the acceptance, the reset write and all FIFO writes. -/
def hashStreamed (s : State) (w : Word) (m : Bytes) (hex : Bool) : State :=
  streamed ((((s.accept w m).hashBegin m hex).winShaReset s.cfg.shaResetValue).setDirty false |>.goProc (.shaWrFifo 0))

/-- The state in which the digest is read, started from there. -/
def hashReady (u : State) (n : Nat) (more : List Word) : State :=
  readyRead (u.winShaStart u.cfg.shaStartValue).startShaPoll n more

theorem length_shaPad_div (m : Bytes) : (shaPad m).length / 4 = 16 * (m.length / 64 + 1) := by
  rw [HashMessage.length_shaPad]
  omega

theorem steps_hashStreamed {s : State} (hs : IdleReady s) {l : HostLine} {rest : List HostLine}
    (hprog : s.env.program = l :: rest) {hex : Bool} (hw : l.word = (Instr.sha3Hash hex).word)
    (hi : decode (.cmd l.word) = .ok (.sha3Hash hex)) :
    steps (1 + 1 + 16 * (l.data.length / 64 + 1)) s = .next (hashStreamed s l.word l.data hex) := by
  have hd : s.presentedData = l.data := by rw [State.presentedData, hprog]
  have hfirst := step_command hs hprog hi
  obtain ⟨hb, hm, hr, hq, -⟩ := hs
  rw [exec_sha3Hash hb hm, hd, ← hw] at hfirst
  have hcmd : ((s.accept l.word l.data).hashBegin l.data hex).port.cmd ≠ Instr.sha3Reset.word := by
    change l.word ≠ _
    rw [hw]
    cases hex <;> decide
  have hrun : Running ((s.accept l.word l.data).hashBegin l.data hex) := ⟨rfl, hr, hq⟩
  have hsecond := step_proc hrun (i := .sha3WrReset) rfl
  rw [exec_sha3WrReset_in_hash hcmd] at hsecond
  refine steps_trans (steps_trans (steps_one hfirst) (steps_one hsecond)) ?_
  have hlen := length_shaPad_div l.data
  rw [show 16 * (l.data.length / 64 + 1) = (16 * (l.data.length / 64) + 15) + 1 by omega]
  refine steps_fifo _ (j := 0) ⟨rfl, hr, hq⟩ rfl ?_
  change 0 + _ = (shaPad l.data).length / 4
  omega

/-- Settles O44: the runs of its parts, one after the other. -/
theorem sha3HashCommandCompletes : Obligations.Sha3HashCommandCompletes := by
  intro s l rest hex pre more d ds hs hprog hw hready hpre hmax hdig
  have hi : decode (.cmd l.word) = .ok (.sha3Hash hex) := by rw [hw]; cases hex <;> decide
  have hw' : l.word = (Instr.sha3Hash hex).word := by rw [hw]; cases hex <;> decide
  have hstream := steps_hashStreamed hs hprog hw' hi
  obtain ⟨-, -, hr, hq, -, hrun, -⟩ := hs
  have hnv : s.seq.run ≠ .valHash := fun he => by rw [he] at hrun; cases hrun
  have hstart := steps_one (step_proc (s := hashStreamed s l.word l.data hex) ⟨rfl, hr, hq⟩ (i := .sha3WrStart) rfl)
  have hpoll := steps_poll (pre := pre) (more := more) (a := 1)
    (u := ((hashStreamed s l.word l.data hex).winShaStart s.cfg.shaStartValue).startShaPoll) ⟨rfl, hr, hq⟩ rfl hready hpre
    (by change 0 + pre.length < s.cfg.pollMax; omega)
  have hread := steps_digest 15 (k := 0) (u := hashReady (hashStreamed s l.word l.data hex) pre.length more)
    ⟨rfl, hr, hq⟩ rfl hnv rfl rfl
  have hblock : (hashStreamed s l.word l.data hex).shaDigestBlock = d := by
    rw [State.shaDigestBlock, (by exact hdig : (hashStreamed s l.word l.data hex).env.shaDigest = d :: ds), nextAnswer]
  have hwhole : wholeDigest (hashReady (hashStreamed s l.word l.data hex) pre.length more) = unwords d.toList := by
    rw [← hblock]
    rfl
  rw [hwhole] at hread
  refine ⟨_, steps_trans (steps_trans (steps_trans hstream hstart) hpoll) hread, rfl, rfl, rfl, rfl, rfl, rfl, rfl, rfl, rfl,
    rfl, rfl, rfl, rfl⟩

end Sys2Proof.Proofs.HashCommand
end

section
/-! PROOF. One block on the RSA bus (40_rsa section 3): the sixteen writes, the key select, the start, one status read and
the sixteen reads, thirty-five steps. -/

namespace Sys2Proof.Proofs.RsaBlocks
open Sys2Proof Sys2Proof.Machine Sys2Proof.Safety
open Sys2Proof.Proofs.KeyselAndStatus Sys2Proof.Proofs.Moves Sys2Proof.Proofs.CommandStarts
open Sys2Proof.Proofs.BusTransactions Sys2Proof.Proofs.HashCommand

/-! ### Words written one after the other -/

/-- `old` with the words from `i` on taken from `new`. -/
def overwritten (old new : Block) (i : Nat) : Block := Vector.ofFn fun j => if j.val < i then old[j.val] else new[j.val]

theorem overwritten_zero (old new : Block) : overwritten old new 0 = new := by
  apply Vector.ext
  intro j hj
  simp [overwritten]

theorem overwritten_blockSet (old new : Block) (i : Fin 16) :
    overwritten (blockSet old i (blockGet new i)) new (i.val + 1) = overwritten old new i.val := by
  apply Vector.ext
  intro j hj
  simp only [overwritten, blockSet, blockGet, Vector.getElem_ofFn, Vector.getElem_set]
  by_cases hlt : j < i.val
  · rw [if_pos (by omega), if_neg (by omega), if_pos hlt]
  · by_cases heq : i.val = j
    · subst heq
      simp
    · rw [if_neg (by omega), if_neg hlt]

theorem blockSet_last (old new : Block) : blockSet old 15 (blockGet new 15) = overwritten old new 15 := by
  apply Vector.ext
  intro j hj
  simp only [overwritten, blockSet, blockGet, Vector.getElem_ofFn, Vector.getElem_set]
  by_cases hlt : j < 15
  · rw [if_pos hlt]
    exact if_neg (Nat.ne_of_gt hlt)
  · obtain rfl : j = 15 := by omega
    rfl

/-! ### The writes (R88, R89, R90) -/

/-- The state with the whole block written. -/
def blockWritten (u : State) (din : Block) : State :=
  { u with rsaWin := { u.rsaWin with din := din }, seq := { u.seq with proc := .rsaWrKey } }

theorem exec_rsaWrData_last {u : State} {i : Fin 16} (h : i.val + 1 = 16) :
    exec (.rsaWrData i) u = .next (blockWritten u (blockSet u.rsaWin.din i (blockGet u.rsa.inp i))) := by
  rw [exec, execRsaWrData, nextIndex_of_not_lt (by omega)]
  rfl

theorem exec_rsaWrData_of_lt {u : State} {i : Fin 16} (h : i.val + 1 < 16) :
    exec (.rsaWrData i) u =
      .next ((u.winRsaData i (blockGet u.rsa.inp i)).goProc (.rsaWrData ⟨i.val + 1, h⟩)) := by
  rw [exec, execRsaWrData, nextIndex_of_lt h]

theorem steps_wrData (n : Nat) {u : State} {i : Fin 16} (hs : Running u) (hp : u.seq.proc = .rsaWrData i)
    (hn : i.val + (n + 1) = 16) :
    steps (n + 1) u = .next (blockWritten u (overwritten u.rsaWin.din u.rsa.inp i.val)) := by
  induction n generalizing u i with
  | zero =>
    have hstep : step u = exec (.rsaWrData i) u := step_proc hs (by rw [hp]; rfl)
    obtain rfl : i = 15 := Fin.ext (by change i.val = 15; omega)
    rw [exec_rsaWrData_last rfl, blockSet_last] at hstep
    exact steps_one hstep
  | succ n ih =>
    have hlt : i.val + 1 < 16 := by omega
    have hstep : step u = exec (.rsaWrData i) u := step_proc hs (by rw [hp]; rfl)
    rw [exec_rsaWrData_of_lt hlt] at hstep
    have hn' : i.val + 1 + (n + 1) = 16 := by omega
    rw [steps_succ_next hstep, ← overwritten_blockSet]
    exact ih (u := (u.winRsaData i (blockGet u.rsa.inp i)).goProc (.rsaWrData ⟨i.val + 1, hlt⟩))
      (i := ⟨i.val + 1, hlt⟩) hs rfl hn'

/-! ### The reads (R92) -/

/-- The state before the last read, with output words `o`. -/
def beforeLastRead (u : State) (o : Block) : State :=
  { u with rsa := { u.rsa with out := o }, seq := { u.seq with proc := .rsaRdData 15 } }

theorem steps_rdData (n : Nat) {u : State} {i : Fin 16} (hs : Running u) (hp : u.seq.proc = .rsaRdData i)
    (hn : i.val + n = 15) :
    ∃ o, blockSet o 15 (blockGet u.rsaWin.dout 15) = overwritten u.rsa.out u.rsaWin.dout i.val ∧
      steps n u = .next (beforeLastRead u o) := by
  induction n generalizing u i with
  | zero =>
    obtain rfl : i = 15 := Fin.ext hn
    refine ⟨u.rsa.out, blockSet_last _ _, ?_⟩
    rw [steps_zero, beforeLastRead, ← hp]
  | succ n ih =>
    have hlt : i.val + 1 < 16 := by omega
    have hstep : step u = exec (.rsaRdData i) u := step_proc hs (by rw [hp]; rfl)
    rw [exec_rsaRdData_of_lt hlt] at hstep
    have hn' : i.val + 1 + n = 15 := by omega
    obtain ⟨o, ho, hsteps⟩ := ih (u := (readOut u i).goProc (.rsaRdData ⟨i.val + 1, hlt⟩))
      (i := ⟨i.val + 1, hlt⟩) hs rfl hn'
    refine ⟨o, ho.trans (overwritten_blockSet _ _ i), ?_⟩
    rw [steps_succ_next hstep, hsteps]
    rfl

/-! ### The block (R83) -/

/-- A block is on its way to the core, whose answers stand ready. -/
structure AtBlock (u : State) (r : Block) (more : List Word) (rs : List Block) : Prop where
  running : Running u
  proc : u.seq.proc = .rsaWrData 0
  status : u.env.rsaStatus = u.cfg.rsaDone :: more
  result : u.env.rsaResult = r :: rs

/-- The state with the block answered: the window, the answers taken, the poll's count. -/
def answered (u : State) (r : Block) (more : List Word) (rs : List Block) : State :=
  { u with
    rsaWin := { u.rsaWin with
      din := u.rsa.inp, dout := r, keysel := keyIndexOf u.cfg.keyIndex u.rsa.key, start := 1 }
    rsa := { u.rsa with out := r, pollcnt := 1 }
    env := { u.env with rsaStatus := more, rsaResult := rs, draws := u.env.draws + 2 } }

/-- The state before the block's last read, with output words `o`. -/
def lastReadNext (u : State) (r : Block) (more : List Word) (rs : List Block) (o : Block) : State :=
  { answered u r more rs with
    rsa := { u.rsa with pollcnt := 1, out := o }, seq := { u.seq with proc := .rsaRdData 15 } }

/-- The state with the block's bytes appended as well. -/
def blockClosed (u : State) (r : Block) (more : List Word) (rs : List Block) (acc : Bytes) : State :=
  { answered u r more rs with rsa := { u.rsa with out := r, pollcnt := 1, acc := acc, k := u.rsa.k + 1 } }

/-- The state with the block written, the key selected and the core started. -/
def blockStarted (u : State) : State :=
  (((blockWritten u u.rsa.inp).winRsaKeysel (keyIndexOf u.cfg.keyIndex u.rsa.key)).winRsaStart rsaStartValue).startRsaPoll

theorem steps_blockStarted {u : State} (hs : Running u) (hp : u.seq.proc = .rsaWrData 0) :
    steps 18 u = .next (blockStarted u) := by
  have hwrite := steps_wrData 15 hs hp rfl
  rw [Fin.val_zero, overwritten_zero] at hwrite
  have hkey := steps_one (step_proc (s := blockWritten u u.rsa.inp) hs (i := .rsaWrKeysel) rfl)
  have hstart := steps_one (step_proc (s := ((blockWritten u u.rsa.inp).winRsaKeysel
    (keyIndexOf u.cfg.keyIndex u.rsa.key)).goProc .rsaWrStart) hs (i := .rsaWrStart) rfl)
  exact steps_trans (steps_trans hwrite hkey) hstart

section
variable {u : State} {r : Block} {more : List Word} {rs : List Block} (h : AtBlock u r more rs)
include h

/-- From the first write to the status read. -/
theorem steps_toReads :
    steps 19 u = .next { answered u r more rs with
      rsa := { u.rsa with pollcnt := 1 }, seq := { u.seq with proc := .rsaRdData 0 } } := by
  obtain ⟨hs, hp, hstatus, hresult⟩ := h
  have hblock : u.rsaResultBlock = r := by rw [State.rsaResultBlock, hresult, nextAnswer]
  have hrs : u.env.rsaResult.tail = rs := by rw [hresult, List.tail_cons]
  have hmore : u.env.rsaStatus.tail = more := by rw [hstatus, List.tail_cons]
  have hw : (blockStarted u).rsaStatusWord = (blockStarted u).cfg.rsaDone := rsaStatusWord_of_cons hstatus
  have hread := step_proc (s := blockStarted u) hs (i := .rsaRdStatus) rfl
  rw [pollReadsStatus.1 _ (.inl hw), if_pos hw] at hread
  refine (steps_trans (steps_blockStarted hs hp) (steps_one hread)).trans ?_
  rw [answered, ← hblock, ← hrs, ← hmore]
  rfl

/-- The whole block but its last read. -/
theorem steps_toLastRead :
    ∃ o, blockSet o 15 (blockGet r 15) = r ∧ steps 34 u = .next (lastReadNext u r more rs o) := by
  obtain ⟨o, ho, hlast⟩ := steps_rdData 15 (i := 0) (u := { answered u r more rs with
      rsa := { u.rsa with pollcnt := 1 }, seq := { u.seq with proc := .rsaRdData 0 } }) h.running rfl rfl
  exact ⟨o, ho.trans (overwritten_zero _ _), steps_trans (steps_toReads h) hlast⟩

end

/-! ### The end of the block (R86, R87) -/

theorem blockOut_lastReadNext {o r : Block} (ho : blockSet o 15 (blockGet r 15) = r) (u : State) (more : List Word)
    (rs : List Block) (acc : Bytes) :
    blockOut (lastReadNext u r more rs o) 15 acc = (blockClosed u r more rs acc).goProc (.rsaRdData 15) := by
  change State.goProc (.rsaRdData 15) { answered u r more rs with
    rsa := { u.rsa with pollcnt := 1, out := blockSet o 15 (blockGet r 15), acc := acc, k := u.rsa.k + 1 } } = _
  rw [ho]
  rfl

theorem lastOut_lastReadNext {o r : Block} (ho : blockSet o 15 (blockGet r 15) = r) (u : State) (more : List Word)
    (rs : List Block) : lastOut (lastReadNext u r more rs o) = unwords r.toList :=
  congrArg (fun b : Block => unwords b.toList) ho

theorem loadBlock_goProc (p : Proc) (b : Bytes) (x : State) : (x.goProc p).loadBlock b = x.loadBlock b := rfl

theorem startFilling_goProc (p : Proc) (x : State) : (x.goProc p).startFilling = x.startFilling := rfl

theorem rsaReturn_goProc {x : State} (p : Proc) (out : Bytes) (hx : x.seq.sess.active = false)
    (hr : x.seq.run.active = false) : (x.goProc p).rsaReturn out = x.complete .ok out :=
  (State.rsaReturn_in_command (s := x.goProc p) out hx (ne_valDecrypt_of_not_active hr)).trans rfl

section
variable {u : State} {r : Block} {more : List Word} {rs : List Block} (h : AtBlock u r more rs)
include h

/-- The whole block, by what its last read does. -/
theorem steps_block {t : State} (hlast : ∀ o, blockSet o 15 (blockGet r 15) = r →
    exec (.rsaRdData 15) (lastReadNext u r more rs o) = .next t) : steps 35 u = .next t := by
  obtain ⟨o, ho, hsteps⟩ := steps_toLastRead h
  have hstep := step_proc (s := lastReadNext u r more rs o) h.running (i := .rsaRdData 15) rfl
  exact steps_trans hsteps (steps_one (hstep.trans (hlast o ho)))

theorem steps_nextCipher (hop : u.rsa.op = .decrypt) (hh : HeaderPasses u (unwords r.toList))
    (hk : u.rsa.k + 1 < u.rsa.nblk) :
    steps 35 u = .next ((blockClosed u r more rs (u.rsa.acc ++ payloadOf (unwords r.toList))).loadBlock
      (cipherBlock u.rsa.src (u.rsa.k + 1))) := by
  refine steps_block h fun o ho => ?_
  have hout := lastOut_lastReadNext ho u more rs
  rw [exec_rsaRdData_nextCipher (s := lastReadNext u r more rs o) hop (by rwa [hout]) hk, blockOut_lastReadNext ho, hout,
    loadBlock_goProc]
  rfl

theorem steps_decrypted (hop : u.rsa.op = .decrypt) (hh : HeaderPasses u (unwords r.toList))
    (hk : u.rsa.nblk ≤ u.rsa.k + 1) (hx : u.seq.sess.active = false) (hr : u.seq.run.active = false) :
    steps 35 u = .next ((blockClosed u r more rs (u.rsa.acc ++ strip (payloadOf (unwords r.toList)))).complete .ok
      (u.rsa.acc ++ strip (payloadOf (unwords r.toList)))) := by
  refine steps_block h fun o ho => ?_
  have hout := lastOut_lastReadNext ho u more rs
  rw [exec_rsaRdData_decrypted (s := lastReadNext u r more rs o) hop (by rwa [hout]) hk, blockOut_lastReadNext ho, hout,
    rsaReturn_goProc _ _ (by exact hx) (by exact hr)]
  rfl

theorem steps_nextFiller (hop : u.rsa.op = .encrypt) (hk : u.rsa.k + 1 < u.rsa.nblk) :
    steps 35 u = .next (blockClosed u r more rs (u.rsa.acc ++ unwords r.toList)).startFilling := by
  refine steps_block h fun o ho => ?_
  rw [exec_rsaRdData_nextFiller (s := lastReadNext u r more rs o) hop hk, blockOut_lastReadNext ho,
    lastOut_lastReadNext ho, startFilling_goProc]
  rfl

theorem steps_encrypted (hop : u.rsa.op = .encrypt) (hk : u.rsa.nblk ≤ u.rsa.k + 1)
    (hx : u.seq.sess.active = false) (hr : u.seq.run.active = false) :
    steps 35 u = .next ((blockClosed u r more rs (u.rsa.acc ++ unwords r.toList)).complete .ok
      (u.rsa.acc ++ unwords r.toList)) := by
  refine steps_block h fun o ho => ?_
  rw [exec_rsaRdData_encrypted (s := lastReadNext u r more rs o) hop hk, blockOut_lastReadNext ho,
    lastOut_lastReadNext ho, rsaReturn_goProc _ _ (by exact hx) (by exact hr)]
  rfl

end

end Sys2Proof.Proofs.RsaBlocks
end

section
/-! PROOF. The blocks of Decrypt and of Encrypt, one after the other, to the end of a command (40_rsa sections 3 and 4). -/

namespace Sys2Proof.Proofs.RsaCommands
open Sys2Proof Sys2Proof.Machine Sys2Proof.Safety
open Sys2Proof.Proofs.CommandStarts Sys2Proof.Proofs.BusTransactions Sys2Proof.Proofs.HashCommand
open Sys2Proof.Proofs.RsaBlocks

/-- The bytes of a block of words. -/
def blockBytes (r : Block) : Bytes := unwords r.toList

/-! ### The blocks of an operation, to the command's end -/

/-- How the command has ended when its blocks are done: the result, the last block on the bus, the answers taken, and
nothing else. -/
structure BlocksDone (u t : State) (data : Bytes) (din : Block) (more : List Word) (rs : List Block) : Prop where
  port : t.port = { u.port with busy := false, resStatus := .ok, resData := data }
  seq : t.seq = ⟨u.seq.run, .noSession, .idle, .start⟩
  filling : t.rsa.filling = false
  cfg : t.cfg = u.cfg
  book : t.book = u.book
  err : t.err = u.err
  shaWin : t.shaWin = u.shaWin
  stage : t.stage = u.stage
  rsaWin : t.rsaWin = ⟨din, t.rsaWin.dout, keyIndexOf u.cfg.keyIndex u.rsa.key, 1, u.rsaWin.stop⟩
  env : t.env = { u.env with rsaStatus := more, rsaResult := rs, filler := t.env.filler, draws := t.env.draws }

/-- One block before them: the state after it differs in what they write. -/
theorem BlocksDone.of_next {u v t : State} {data : Bytes} {din : Block} {more : List Word} {rs : List Block}
    (h : BlocksDone v t data din more rs) (hport : v.port = u.port) (hrun : v.seq.run = u.seq.run) (hcfg : v.cfg = u.cfg)
    (hbook : v.book = u.book) (herr : v.err = u.err) (hsha : v.shaWin = u.shaWin) (hstage : v.stage = u.stage)
    (hkey : v.rsa.key = u.rsa.key) (hstop : v.rsaWin.stop = u.rsaWin.stop)
    (henv : { v.env with rsaStatus := more, rsaResult := rs, filler := t.env.filler, draws := t.env.draws } =
      { u.env with rsaStatus := more, rsaResult := rs, filler := t.env.filler, draws := t.env.draws }) :
    BlocksDone u t data din more rs where
  port := by rw [h.port, hport]
  seq := by rw [h.seq, hrun]
  filling := h.filling
  cfg := h.cfg.trans hcfg
  book := h.book.trans hbook
  err := h.err.trans herr
  shaWin := h.shaWin.trans hsha
  stage := h.stage.trans hstage
  rsaWin := h.rsaWin.trans (by rw [hcfg, hkey, hstop])
  env := h.env.trans henv

/-- An RSA operation of a command: no session, no run. -/
structure InRsaCommand (u : State) : Prop where
  sess : u.seq.sess.active = false
  run : u.seq.run.active = false

/-- The next block of Decrypt on its way, after one that is answered. -/
def cipherNext (u : State) (r : Block) (more : List Word) (rs : List Block) : State :=
  (blockClosed u r more rs (u.rsa.acc ++ payloadOf (blockBytes r))).loadBlock (cipherBlock u.rsa.src (u.rsa.k + 1))

section
variable {more : List Word} {rs' : List Block}

theorem decryptBlocks (rs : List Block) {u : State} {r : Block}
    (h : AtBlock u r (List.replicate rs.length u.cfg.rsaDone ++ more) (rs ++ rs')) (hc : InRsaCommand u)
    (hop : u.rsa.op = .decrypt) (hn : u.rsa.k + rs.length + 1 = u.rsa.nblk)
    (hin : u.rsa.inp = blockOfBytes (cipherBlock u.rsa.src u.rsa.k))
    (hh : ∀ x ∈ r :: rs, HeaderPasses u (blockBytes x)) :
    ∃ t, steps (35 * (rs.length + 1)) u = .next t ∧
      BlocksDone u t (u.rsa.acc ++ openBlocks ((r :: rs).map blockBytes))
        (blockOfBytes (cipherBlock u.rsa.src (u.rsa.nblk - 1))) more rs' := by
  induction rs generalizing u r with
  | nil =>
    have hr := hh r (List.mem_singleton_self r)
    have hk : u.rsa.nblk ≤ u.rsa.k + 1 := Nat.le_of_eq hn.symm
    refine ⟨_, steps_decrypted h hop hr hk hc.sess hc.run, rfl, rfl, rfl, rfl, rfl, rfl, rfl, rfl, ?_, rfl⟩
    have hlast : blockOfBytes (cipherBlock u.rsa.src (u.rsa.nblk - 1)) = u.rsa.inp := by rw [hin, ← hn]; rfl
    rw [hlast]
    rfl
  | cons r' rs ih =>
    obtain ⟨hr, hh⟩ := List.forall_mem_cons.1 hh
    rw [List.length_cons] at hn
    have hn' : u.rsa.k + 1 + rs.length + 1 = u.rsa.nblk := by omega
    have hsteps := steps_nextCipher h hop hr (by omega)
    obtain ⟨t, ht, hd⟩ := ih (r := r')
      (u := cipherNext u r (List.replicate (rs.length + 1) u.cfg.rsaDone ++ more) (r' :: rs ++ rs'))
      ⟨h.running, rfl, rfl, rfl⟩ ⟨hc.sess, hc.run⟩ hop hn' rfl hh
    have hcount : 35 * (List.length (r' :: rs) + 1) = 35 + 35 * (rs.length + 1) := by rw [List.length_cons]; omega
    have hacc : u.rsa.acc ++ openBlocks ((r :: r' :: rs).map blockBytes) =
        u.rsa.acc ++ payloadOf (blockBytes r) ++ openBlocks ((r' :: rs).map blockBytes) := by
      rw [List.append_assoc]
      rfl
    rw [hcount, hacc]
    refine ⟨t, steps_trans hsteps ht, hd.of_next ?_ ?_ ?_ ?_ ?_ ?_ ?_ ?_ ?_ ?_⟩
    all_goals rfl

/-- A block's filler is to be drawn from the tape; the core's answers stand ready. -/
structure AtFilling (u : State) (tape : Bytes) (r : Block) (more : List Word) (rs : List Block) : Prop where
  running : Running u
  proc : u.seq.proc = .idle
  filling : u.rsa.filling = true
  none_drawn : u.rsa.filler = []
  tape : u.env.filler = tape
  status : u.env.rsaStatus = u.cfg.rsaDone :: more
  result : u.env.rsaResult = r :: rs

theorem AtFilling.split {u : State} {fs tape : Bytes} {r : Block} {more : List Word} {rs : List Block}
    (h : AtFilling u (fs ++ tape) r more rs) : AtFilling u (fs.take 8 ++ (fs.drop 8 ++ tape)) r more rs := by
  rwa [← List.append_assoc, List.take_append_drop]

/-- The state `v` after the draws of filler `g`: its block is on the way to the core. -/
structure Filled (u v : State) (g : Bytes) : Prop where
  rsa : v.rsa =
    { u.rsa with inp := blockOfBytes (padBlock (segAt u.rsa.src u.rsa.k) g), filler := g, filling := false }
  seq : v.seq = { u.seq with proc := .rsaWrData 0 }
  env : v.env = { u.env with filler := u.env.filler.drop 8, draws := u.env.draws + 8 }
  port : v.port = u.port
  cfg : v.cfg = u.cfg
  book : v.book = u.book
  err : v.err = u.err
  rsaWin : v.rsaWin = u.rsaWin
  shaWin : v.shaWin = u.shaWin
  stage : v.stage = u.stage

theorem steps_filled {u : State} {g tape : Bytes} {r : Block} {more : List Word} {rs : List Block}
    (h : AtFilling u (g ++ tape) r more rs) (hg : FillerValid g) : ∃ v, steps 8 u = .next v ∧ Filled u v g := by
  obtain ⟨hlen, hne⟩ := hg
  have hdraw := fillerFrom_append hne tape u.env.draws
  rw [hlen] at hdraw
  refine ⟨filled u g 8, ?_, rfl, rfl, rfl, rfl, rfl, rfl, rfl, rfl, rfl, rfl⟩
  rw [steps_filler 7 h.running h.proc h.filling (by rw [h.none_drawn]; rfl), h.none_drawn, List.nil_append, h.tape, hdraw]

section
variable {u v : State} {g tape : Bytes} {r : Block} {more : List Word} {rs : List Block} (hv : Filled u v g)
include hv

theorem Filled.running (h : Running u) : Running v := by
  unfold Running
  rwa [hv.port, hv.env]

theorem Filled.atBlock (h : AtFilling u tape r more rs) : AtBlock v r more rs :=
  ⟨hv.running h.running, by rw [hv.seq], by rw [hv.env, hv.cfg, h.status], by rw [hv.env, h.result]⟩

theorem Filled.inRsaCommand (hc : InRsaCommand u) : InRsaCommand v :=
  ⟨by rw [hv.seq, hc.sess], by rw [hv.seq, hc.run]⟩

/-- What the blocks from the filled one on end with is what those from the draws on end with. -/
theorem Filled.blocksDone {t : State} {data : Bytes} {din : Block} (h : BlocksDone v t data din more rs) :
    BlocksDone u t data din more rs :=
  h.of_next hv.port (by rw [hv.seq]) hv.cfg hv.book hv.err hv.shaWin hv.stage (by rw [hv.rsa]) (by rw [hv.rsaWin])
    (by rw [hv.env])

end

/-- The next filler to be drawn, after a block of Encrypt that is answered. -/
def fillerNext (u : State) (r : Block) (more : List Word) (rs : List Block) : State :=
  (blockClosed u r more rs (u.rsa.acc ++ blockBytes r)).startFilling

theorem fillerValid_take {fs : Bytes} {n : Nat} (hlen : fs.length = 8 * (n + 1)) (hne : ∀ b ∈ fs, b ≠ 0) :
    FillerValid (fs.take 8) :=
  ⟨by rw [List.length_take]; omega, fun b hb => hne b (List.mem_of_mem_take hb)⟩

/-- The block next to be filled, after one that is answered. -/
theorem Filled.atFilling_fillerNext {u v : State} {g tape : Bytes} {r r' : Block} {more more' : List Word}
    {rs rs' : List Block} (hv : Filled u v g) (h : AtFilling u (g ++ tape) r more' rs') (hg : g.length = 8)
    (hmore : more' = v.cfg.rsaDone :: more) (hrs : rs' = r' :: rs) :
    AtFilling (fillerNext v r more' rs') tape r' more rs where
  running := hv.running h.running
  proc := rfl
  filling := rfl
  none_drawn := rfl
  tape := (congrArg Env.filler hv.env).trans (by rw [h.tape, List.drop_left' hg])
  status := hmore
  result := hrs

theorem encryptBlocks (rs : List Block) {u : State} {fs fs' : Bytes} {r : Block}
    (h : AtFilling u (fs ++ fs') r (List.replicate rs.length u.cfg.rsaDone ++ more) (rs ++ rs')) (hc : InRsaCommand u)
    (hop : u.rsa.op = .encrypt) (hn : u.rsa.k + rs.length + 1 = u.rsa.nblk) (hlen : fs.length = 8 * (rs.length + 1))
    (hne : ∀ b ∈ fs, b ≠ 0) :
    ∃ t, steps (43 * (rs.length + 1)) u = .next t ∧
      BlocksDone u t (u.rsa.acc ++ (r :: rs).flatMap blockBytes)
        (blockOfBytes (padBlock (segAt u.rsa.src (u.rsa.nblk - 1)) (fs.drop (8 * rs.length)))) more rs' := by
  induction rs generalizing u r fs with
  | nil =>
    obtain ⟨v, hsteps, hv⟩ := steps_filled h.split (fillerValid_take hlen hne)
    have hk : v.rsa.nblk ≤ v.rsa.k + 1 := by rw [hv.rsa]; exact Nat.le_of_eq hn.symm
    have hcv := hv.inRsaCommand hc
    have hblock := steps_encrypted (hv.atBlock h) (by rw [hv.rsa, hop]) hk hcv.sess hcv.run
    have hall : fs.take 8 = fs.drop (8 * 0) := List.take_of_length_le (Nat.le_of_eq hlen)
    have hlast : u.rsa.nblk - 1 = u.rsa.k := by rw [← hn]; rfl
    have hin : blockOfBytes (padBlock (segAt u.rsa.src (u.rsa.nblk - 1)) (fs.drop (8 * 0))) = v.rsa.inp := by
      rw [hv.rsa, hlast, hall]
    have hacc : v.rsa.acc = u.rsa.acc := by rw [hv.rsa]
    rw [List.length_nil, hin, List.flatMap_singleton, ← hacc]
    have hrun := steps_trans hsteps hblock
    exact ⟨_, hrun, hv.blocksDone ⟨rfl, rfl, rfl, rfl, rfl, rfl, rfl, rfl, rfl, rfl⟩⟩
  | cons r' rs ih =>
    rw [List.length_cons] at hn hlen
    have hg := fillerValid_take hlen hne
    obtain ⟨v, hsteps, hv⟩ := steps_filled h.split hg
    rw [← hv.cfg] at h
    have hk : v.rsa.k + 1 < v.rsa.nblk := by rw [hv.rsa]; change u.rsa.k + 1 < u.rsa.nblk; omega
    have hopv : v.rsa.op = .encrypt := by rw [hv.rsa, hop]
    have hblock := steps_nextFiller (hv.atBlock h) hopv hk
    have hat := hv.atFilling_fillerNext (r' := r') (rs := rs ++ rs') h.split hg.1 rfl rfl
    have hnv : v.rsa.k + 1 + rs.length + 1 = v.rsa.nblk := by
      rw [hv.rsa]
      change u.rsa.k + 1 + rs.length + 1 = u.rsa.nblk
      omega
    have hcv := hv.inRsaCommand hc
    have hlen' : (fs.drop 8).length = 8 * (rs.length + 1) := by rw [List.length_drop]; omega
    obtain ⟨t, ht, hd⟩ := ih hat ⟨hcv.sess, hcv.run⟩ hopv hnv hlen' fun b hb => hne b (List.mem_of_mem_drop hb)
    have hcount : 43 * (List.length (r' :: rs) + 1) = 8 + 35 + 43 * (rs.length + 1) := by rw [List.length_cons]; omega
    have hacc : u.rsa.acc ++ (r :: r' :: rs).flatMap blockBytes =
        v.rsa.acc ++ blockBytes r ++ (r' :: rs).flatMap blockBytes := by
      rw [hv.rsa, List.flatMap_cons, List.append_assoc]
    have hdrop : fs.drop (8 * (r' :: rs).length) = (fs.drop 8).drop (8 * rs.length) := by
      rw [List.drop_drop, List.length_cons]
      congr 1
      omega
    have hin : blockOfBytes (padBlock (segAt u.rsa.src (u.rsa.nblk - 1)) (fs.drop (8 * (r' :: rs).length))) =
        blockOfBytes (padBlock (segAt v.rsa.src (v.rsa.nblk - 1)) ((fs.drop 8).drop (8 * rs.length))) := by
      rw [hv.rsa, hdrop]
    rw [hcount, hacc, hin]
    refine ⟨t, steps_trans (steps_trans hsteps hblock) ht, hv.blocksDone (hd.of_next ?_ ?_ ?_ ?_ ?_ ?_ ?_ ?_ ?_ ?_)⟩
    all_goals rfl

end

end Sys2Proof.Proofs.RsaCommands
end

section
/-! PROOF. RSA_DECRYPT and RSA_ENCRYPT from their acceptance to their end (40_rsa sections 3 and 4), and the round trip
through the machine (40_rsa section 6, 90_conflicts C2). -/

namespace Sys2Proof.Proofs.RsaRoundTrip
open Sys2Proof Sys2Proof.Machine Sys2Proof.Safety
open Sys2Proof.Proofs.CommandStarts Sys2Proof.Proofs.BusTransactions Sys2Proof.Proofs.HashCommand
open Sys2Proof.Proofs.RsaBlocks Sys2Proof.Proofs.RsaCommands

theorem presentedData_of_cons {s : State} {l : HostLine} {rest : List HostLine} (h : s.env.program = l :: rest) :
    s.presentedData = l.data := by rw [State.presentedData, h]

/-- The state after the acceptance of an RSA command of `n` blocks. -/
def begun (s : State) (l : HostLine) (op : RsaOp) (key : KeySlot) (n : Nat) : State :=
  (s.accept l.word l.data).beginRsa op key l.data n

/-- A command that has ended from rest is at rest. -/
theorem idleReady_of_blocksDone {s t : State} {l : HostLine} {op : RsaOp} {key : KeySlot} {n : Nat} {data : Bytes}
    {din : Block} {more : List Word} {rs : List Block} (hs : IdleReady s)
    (h : BlocksDone (begun s l op key n) t data din more rs) : IdleReady t := by
  obtain ⟨-, hm, hr, hq, -, hrun, -⟩ := hs
  exact ⟨by rw [h.port], by rw [h.env]; exact hm, by rw [h.env]; exact hr, by rw [h.env]; exact hq, by rw [h.seq],
    by rw [h.seq]; exact hrun, by rw [h.seq], h.filling⟩

section
variable {s t : State} {l : HostLine} {op : RsaOp} {key : KeySlot} {n : Nat} {data : Bytes} {din : Block} {more : List Word}
  {rs : List Block} (h : BlocksDone (begun s l op key n) t data din more rs)
include h

/-- What the bus carried last. -/
theorem bus_of_blocksDone : t.rsaWin.din = din ∧ t.rsaWin.keysel = keyIndexOf s.cfg.keyIndex key ∧ t.rsaWin.start = 1 ∧
    t.rsaWin.stop = s.rsaWin.stop := by
  rw [h.rsaWin]
  exact ⟨rfl, rfl, rfl, rfl⟩

/-- Where the command ends and what it leaves unchanged. -/
theorem rest_of_blocksDone : t.seq.sess = .noSession ∧ t.seq.run = s.seq.run ∧ t.seq.proc = .idle ∧
    t.err = ErrRec.clear ∧ t.book = s.book ∧ t.shaWin = s.shaWin ∧ t.stage = s.stage ∧ t.env.sent = s.env.sent ∧
    t.env.recv = s.env.recv := by
  rw [h.seq, h.env]
  exact ⟨rfl, rfl, rfl, h.err, h.book, h.shaWin, h.stage, rfl, rfl⟩

end

/-! ### RSA_DECRYPT (R87) -/

/-- The command from its acceptance to its end. -/
theorem steps_rsaDecrypt {s : State} {l : HostLine} {rest : List HostLine} {n : Nat} {more : List Word}
    {rs rs' : List Block} (hs : IdleReady s) (hprog : s.env.program = l :: rest) (hw : l.word = 0x00000002) (hn : 0 < n)
    (hlen : l.data.length = 64 * n) (hstatus : s.env.rsaStatus = List.replicate n s.cfg.rsaDone ++ more)
    (hresult : s.env.rsaResult = rs ++ rs') (hrs : rs.length = n) (hh : ∀ r ∈ rs, HeaderPasses s (blockBytes r)) :
    ∃ t, steps (1 + 35 * n) s = .next t ∧
      BlocksDone (begun s l .decrypt .devicePrivate n) t (openBlocks (rs.map blockBytes))
        (blockOfBytes (cipherBlock l.data (n - 1))) more rs' := by
  have hi : decode (.cmd l.word) = .ok (.rsaDecrypt .devicePrivate) := by rw [hw]; decide
  have hword : (Instr.rsaDecrypt .devicePrivate).word = l.word := by rw [hw]; decide
  have hfirst := step_command hs hprog hi
  obtain ⟨hb, hm, hr, hq, hx, hrun, -⟩ := hs
  have hdiv : l.data.length / 64 = n := by omega
  rw [exec_rsaDecrypt hb hm, presentedData_of_cons hprog, decryptBegin_blocks (by omega) (by omega), hdiv, hword] at hfirst
  obtain _ | ⟨r, rs⟩ := rs
  · exact absurd hrs (by simp; omega)
  subst hrs
  have hnblk : 0 + rs.length + 1 = (r :: rs).length := by rw [Nat.zero_add, List.length_cons]
  obtain ⟨t, ht, hd⟩ := decryptBlocks rs (u := (begun s l .decrypt .devicePrivate (r :: rs).length).loadBlock
    (l.data.take 64)) ⟨⟨rfl, hr, hq⟩, rfl, hstatus, hresult⟩ ⟨not_active_of_noSession hx, hrun⟩ rfl hnblk
    rfl hh
  exact ⟨t, steps_trans (steps_one hfirst) ht, hd.of_next rfl rfl rfl rfl rfl rfl rfl rfl rfl rfl⟩

theorem headerPasses_of_strict {s : State} {o : Bytes} (h : s.cfg.hdrCheck = .strict → hdrOk o = true) :
    HeaderPasses s o := by
  cases hc : s.cfg.hdrCheck with
  | off => exact .inl hc
  | strict => exact .inr (h hc)

/-- Settles O46: the run of its blocks, and what it ends with. -/
theorem rsaDecryptCommandCompletes : Obligations.RsaDecryptCommandCompletes := by
  intro s l rest n more rs rs' hs hprog hw hn hlen hstatus hresult hrs hh
  obtain ⟨t, ht, h⟩ := steps_rsaDecrypt hs hprog hw hn hlen hstatus hresult hrs fun r hr =>
    headerPasses_of_strict fun hc => hh hc r hr
  have hlast : cipherBlock l.data (n - 1) = l.data.drop (64 * (n - 1)) :=
    List.take_of_length_le (by rw [List.length_drop]; omega)
  rw [hlast] at h
  obtain ⟨hdin, hkeysel, hstart, hstop⟩ := bus_of_blocksDone h
  exact ⟨t, ht, h.port, hdin, hkeysel, hstart, hstop, rest_of_blocksDone h⟩

/-! ### RSA_ENCRYPT (R86) -/

/-- The command from its acceptance to its end, when there is something to encrypt. -/
theorem steps_rsaEncrypt {s : State} {l : HostLine} {rest : List HostLine} {key : KeySlot} {n : Nat} {fs fs' : Bytes}
    {more : List Word} {rs rs' : List Block} (hs : IdleReady s) (hprog : s.env.program = l :: rest)
    (hi : decode (.cmd l.word) = .ok (.rsaEncrypt key)) (hkey : key ≠ .devicePrivate) (hd : l.data ≠ [])
    (hn : n = segCount l.data) (hfil : s.env.filler = fs ++ fs') (hlen : fs.length = 8 * n) (hne : ∀ b ∈ fs, b ≠ 0)
    (hstatus : s.env.rsaStatus = List.replicate n s.cfg.rsaDone ++ more) (hresult : s.env.rsaResult = rs ++ rs')
    (hrs : rs.length = n) :
    ∃ t, steps (1 + 43 * n) s = .next t ∧
      BlocksDone (begun s l .encrypt key n) t (rs.flatMap blockBytes)
        (blockOfBytes (padBlock (segAt l.data (n - 1)) (fs.drop (8 * (n - 1))))) more rs' := by
  have hword : (Instr.rsaEncrypt key).word = l.word := Code.cmd.inj ((Codes.codesDecodeAndEncodeAgree _ _).1 hi)
  have hfirst := step_command hs hprog hi
  obtain ⟨hb, hm, hr, hq, hx, hrun, -⟩ := hs
  rw [exec_rsaEncrypt hb hm, presentedData_of_cons hprog, encryptBegin_public hkey hd, ← hn, hword] at hfirst
  obtain _ | ⟨r, rs⟩ := rs
  · exact absurd (hn ▸ hrs.symm) (mt (segCount_eq_zero_iff _).1 hd)
  subst hrs
  have hnblk : 0 + rs.length + 1 = (r :: rs).length := by rw [Nat.zero_add, List.length_cons]
  obtain ⟨t, ht, h⟩ := encryptBlocks rs (u := (begun s l .encrypt key (r :: rs).length).startFilling)
    ⟨⟨rfl, hr, hq⟩, rfl, rfl, rfl, hfil, hstatus, hresult⟩ ⟨not_active_of_noSession hx, hrun⟩ rfl hnblk
    hlen hne
  exact ⟨t, steps_trans (steps_one hfirst) ht, h.of_next rfl rfl rfl rfl rfl rfl rfl rfl rfl rfl⟩

theorem length_blockBytes (r : Block) : (blockBytes r).length = 64 := by
  simp [blockBytes, unwords, beBytes, List.length_flatMap]

theorem length_flatMap_blockBytes (rs : List Block) : (rs.flatMap blockBytes).length = 64 * rs.length := by
  simp [List.length_flatMap, length_blockBytes, Nat.mul_comm]

/-- Settles O47: the empty plaintext ends in its acceptance step, any other by its blocks. -/
theorem rsaEncryptCommandCompletes : Obligations.RsaEncryptCommandCompletes := by
  intro s l rest key n fs fs' more rs rs' hs hprog hi hkey hn hfil hlen hne hstatus hresult hrs
  by_cases hd : l.data = []
  · have hword : (Instr.rsaEncrypt key).word = l.word := Code.cmd.inj ((Codes.codesDecodeAndEncodeAgree _ _).1 hi)
    obtain rfl : n = 0 := hn.trans ((segCount_eq_zero_iff _).2 hd)
    obtain rfl : rs = [] := List.length_eq_zero_iff.1 hrs
    have hstep := step_command hs hprog hi
    rw [rsaEncryptStarts.2.1 s key hs hkey ((presentedData_of_cons hprog).trans hd), hword] at hstep
    obtain ⟨-, -, -, -, hx, -, hp, -⟩ := hs
    exact ⟨_, steps_one hstep, by rw [hd]; rfl, rfl, fun h => absurd h (Nat.lt_irrefl 0), fun _ => rfl, hx, rfl, hp,
      rfl, rfl, rfl, rfl, rfl, rfl⟩
  · obtain ⟨t, ht, h⟩ := steps_rsaEncrypt hs hprog hi hkey hd hn hfil hlen hne hstatus hresult hrs
    have hn0 : n ≠ 0 := fun h0 => hd ((segCount_eq_zero_iff _).1 (hn.symm.trans h0))
    obtain ⟨hdin, hkeysel, hstart, -⟩ := bus_of_blocksDone h
    have hsize : t.port.resData.length = 64 * n := by
      rw [h.port, ← hrs]
      exact length_flatMap_blockBytes rs
    exact ⟨t, ht, h.port, hsize, fun _ => ⟨hdin, hkeysel, hstart⟩, fun h0 => absurd h0 hn0, rest_of_blocksDone h⟩

/-! ### The round trip -/

/-- The filler of block `k` on the tape, and any valid filler past its end. -/
def fillerOf (fs : Bytes) (k : Nat) : Bytes :=
  if 8 * (k + 1) ≤ fs.length then (fs.drop (8 * k)).take 8 else List.replicate 8 1

theorem fillerValid_fillerOf {fs : Bytes} (hne : ∀ b ∈ fs, b ≠ 0) (k : Nat) : FillerValid (fillerOf fs k) := by
  unfold fillerOf
  split
  · exact ⟨by rw [List.length_take, List.length_drop]; omega,
      fun b hb => hne b (List.mem_of_mem_drop (List.mem_of_mem_take hb))⟩
  · exact ⟨rfl, by decide⟩

theorem fillerOf_of_lt {fs : Bytes} {n k : Nat} (hlen : fs.length = 8 * n) (hk : k < n) :
    fillerOf fs k = (fs.drop (8 * k)).take 8 := if_pos (by omega)

theorem blockBytes_blockOfBytes {b : Bytes} (h : b.length = 64) : blockBytes (blockOfBytes b) = b := by
  rw [blockBytes, Packing.toList_blockOfBytes h, Packing.unwords_words b (by omega)]

/-- The blocks that Encrypt writes to the core, as words. -/
def writtenBlocks (p fs : Bytes) : List Block := (paddedBlocks p (fillerOf fs)).map blockOfBytes

theorem map_blockBytes_map_blockOfBytes {l : List Bytes} (h : ∀ b ∈ l, b.length = 64) :
    (l.map blockOfBytes).map blockBytes = l := by
  induction l with
  | nil => rfl
  | cons b l ih =>
    obtain ⟨hb, hl⟩ := List.forall_mem_cons.1 h
    rw [List.map_cons, List.map_cons, blockBytes_blockOfBytes hb, ih hl]

theorem map_blockBytes_writtenBlocks {p fs : Bytes} (hp : p ≠ []) (hne : ∀ b ∈ fs, b ≠ 0) :
    (writtenBlocks p fs).map blockBytes = paddedBlocks p (fillerOf fs) := by
  have hlen := (RoundTrips.paddedBlocksOpenToPlaintext p (fillerOf fs) hp (fillerValid_fillerOf hne)).1
  exact map_blockBytes_map_blockOfBytes fun b hb => (hlen b hb).1

/-- What the core answers to them, written from the tape. -/
theorem map_writtenBlocks {p fs : Bytes} {n : Nat} (hn : n = segCount p) (hlen : fs.length = 8 * n) (f : Block → Block) :
    ((List.range n).map fun k => f (blockOfBytes (padBlock (segAt p k) ((fs.drop (8 * k)).take 8)))) =
      (writtenBlocks p fs).map f := by
  rw [writtenBlocks, paddedBlocks, ← hn, List.map_map, List.map_map]
  refine List.map_congr_left fun k hk => ?_
  simp only [Function.comp_apply, fillerOf_of_lt hlen (List.mem_range.1 hk)]

/-- Settles O48: the two commands one after the other; A_KEYPAIR gives Decrypt the written blocks back. -/
theorem encryptThenDecryptRoundTrips : Obligations.EncryptThenDecryptRoundTrips := by
  intro s f p c fs fs' rest n cs rs' more hs hp hn hprog hfil hlen hne hstatus hcs hc hresult hkeys hC2
  rw [map_writtenBlocks (f := f s.cfg.keyIndex.updatingOrgPublic) hn hlen] at hcs
  have hi : decode (.cmd 0x00000101) = .ok (.rsaEncrypt .updatingOrgPublic) := by decide
  have hcount : cs.length = n := by rw [hcs, hn]; simp [writtenBlocks, paddedBlocks]
  have hback : cs.map (f s.cfg.keyIndex.devicePrivate) = writtenBlocks p fs := by
    rw [hcs, List.map_map]
    exact List.map_id'' (fun b => hkeys b) _
  obtain ⟨hpadded, hopen⟩ := RoundTrips.paddedBlocksOpenToPlaintext p (fillerOf fs) hp (fillerValid_fillerOf hne)
  rw [hback, List.append_assoc] at hresult
  rw [Nat.two_mul, List.replicate_add, List.append_assoc] at hstatus
  obtain ⟨t, ht, h⟩ := steps_rsaEncrypt hs hprog hi (by decide) hp hn hfil hlen hne hstatus hresult hcount
  have hprog' : t.env.program = ⟨0x00000002, c⟩ :: rest := by rw [h.env]; exact congrArg List.tail hprog
  have hn0 : n ≠ 0 := fun h0 => hp ((segCount_eq_zero_iff _).1 (hn.symm.trans h0))
  have hclen : c.length = 64 * n := by rw [hc, ← hcount]; exact length_flatMap_blockBytes cs
  have hpass : ∀ r ∈ writtenBlocks p fs, HeaderPasses t (blockBytes r) := by
    intro r hr
    have hmem := List.mem_map_of_mem (f := blockBytes) hr
    rw [map_blockBytes_writtenBlocks hp hne] at hmem
    exact .inr (hpadded _ hmem).2
  obtain ⟨t', ht', h'⟩ := steps_rsaDecrypt (idleReady_of_blocksDone hs h) hprog' rfl (Nat.pos_of_ne_zero hn0) hclen
    (by rw [h.env, h.cfg]; rfl) (by rw [h.env]) (by rw [← hback, List.length_map, hcount]) hpass
  rw [map_blockBytes_writtenBlocks hp hne, hopen.2 (hn ▸ hC2)] at h'
  refine ⟨t', steps_trans ht ht', h'.port, h'.err, h'.book.trans h.book, ?_⟩
  rw [h'.env]
  exact congrArg List.tail hprog'

end Sys2Proof.Proofs.RsaRoundTrip
end
